-- ==== Sys2Proof/Word.lean ====
section
/-!
DEFINITION. The word types of KCORE: bytes, 64-bit words (lanes, DATA, RESP), 32-bit command words, and the three
fixed-size arrays of 10_state.md section 1.1. Every value is unsigned (00_scope.md R10).
-/

namespace Sys2Proof

/-- One message, buffer or digest byte. -/
abbrev Byte := BitVec 8

/-- A 64-bit word: a lane, a DATA operand or a RESP value (00_scope.md R9). -/
abbrev Word := BitVec 64

/-- A 32-bit command word CMD (30_encoding.md R80). -/
abbrev CmdWord := BitVec 32

/-- The state register: 25 lanes of 64 bits, lane `x + 5*y` at index `x + 5*y` (10_state.md R22). -/
abbrev LaneFile := Vector Word 25

/-- The pending buffer PBUF: 144 bytes (10_state.md R27). -/
abbrev PendingBuffer := Vector Byte 144

/-- The digest output register DIG: 64 bytes (10_state.md R30). -/
abbrev DigestRegister := Vector Byte 64

end Sys2Proof
end

