-- ==== Sys2Proof/Syntax.lean ====
section
/-!
DEFINITION. The five commands of KCORE, one constructor per row of spec/opcode_table.json, and the transaction that carries
one on the command port. Operands the spec calls plain unsigned numbers (VARIANT, N, REG: 30_encoding.md R82, R83, R85, R86)
are natural numbers; WellFormed says which fit their fields.
-/

namespace Sys2Proof

/-- A decoded command. -/
inductive Instr where
  /-- INIT: create an instance of the variant with this number (43_control.md R180). -/
  | init (variant : Nat)
  /-- ABSORB: append the low `n` bytes of `data` to the message (41_absorb.md R144). -/
  | absorb (n : Nat) (data : Word)
  /-- FINALIZE: pad, permute, latch the digest, then reset or release (42_finalize.md R163). -/
  | finalize (destroy : Bool)
  /-- CLEAR: abandon the message, then reset or release (43_control.md R183). -/
  | clear (destroy : Bool)
  /-- READ: return the register with this index (43_control.md R185). -/
  | read (reg : Nat)
  deriving DecidableEq, Repr

/-- One transaction on the command port: CMD with its DATA (30_encoding.md R80). -/
structure Command where
  cmd  : CmdWord
  data : Word
  deriving DecidableEq, Repr

end Sys2Proof
end

