-- ==== Sys2Proof/WellFormed.lean ====
section
/-!
DEFINITION. Which terms of Instr have an encoding: each operand fits its field. These are the operands that the assembler of
30_encoding.md R90 does not refuse; values that fit but fail at execution (INIT 100, ABSORB 9, READ 3) are well formed.
-/

namespace Sys2Proof

/-- Every operand fits its field (30_encoding.md R90): VARIANT below 2^16, N below 16, REG below 256. DATA and the DESTROY
bit fit by their types. -/
def Instr.wellFormed : Instr → Bool
  | .init variant => decide (variant < 65536)
  | .absorb n _   => decide (n < 16)
  | .finalize _   => true
  | .clear _      => true
  | .read reg     => decide (reg < 256)

end Sys2Proof
end

