-- ==== Sys2Proof/Decode.lean ====
section
/-!
DEFINITION. The decoder of 30_encoding.md R87, total over all command words and refusing by name, and the encoder written
from the formats of R82 to R85 and R90.
-/

namespace Sys2Proof

/-- Why a command word is ILLEGAL (30_encoding.md R88, 60_exceptions.md R202). -/
inductive IllegalWord where
  /-- OP is 0x0 or 0x6..0xF. -/
  | reservedOpcode (op : BitVec 4)
  /-- OP is 0x1..0x5 and a reserved bit is 1. -/
  | reservedBit (op : BitVec 4)
  deriving DecidableEq, Repr

/-- What the decoder reads from a transaction. -/
inductive Decoded where
  | instr (i : Instr)
  | illegal (why : IllegalWord)
  deriving DecidableEq, Repr

/-- OP = CMD[31:28] (30_encoding.md R87). -/
def opcodeOf (cmd : CmdWord) : BitVec 4 := cmd.extractLsb' 28 4

/-- VARIANT = CMD[15:0] (30_encoding.md R86). -/
def variantField (cmd : CmdWord) : Nat := (cmd.extractLsb' 0 16).toNat

/-- N = CMD[3:0] (30_encoding.md R86). -/
def countField (cmd : CmdWord) : Nat := (cmd.extractLsb' 0 4).toNat

/-- D = CMD[0] (30_encoding.md R86). -/
def destroyField (cmd : CmdWord) : Bool := cmd.getLsbD 0

/-- REG = CMD[7:0] (30_encoding.md R86). -/
def regField (cmd : CmdWord) : Nat := (cmd.extractLsb' 0 8).toNat

/-- A form of the opcode map: illegal when a bit of the reserved mask is 1, the instruction otherwise. -/
def reservedChecked (c : Command) (mask : CmdWord) (i : Instr) : Decoded :=
  if c.cmd &&& mask ≠ 0#32 then .illegal (.reservedBit (opcodeOf c.cmd)) else .instr i

/-- The decoder of 30_encoding.md R87. DATA is an operand of ABSORB alone and has no part in what is decoded (R80). -/
def decode (c : Command) : Decoded :=
  match opcodeOf c.cmd with
  | 0x1#4 => reservedChecked c 0x0FFF0000#32 (.init (variantField c.cmd))
  | 0x2#4 => reservedChecked c 0x0FFFFFF0#32 (.absorb (countField c.cmd) c.data)
  | 0x3#4 => reservedChecked c 0x0FFFFFFE#32 (.finalize (destroyField c.cmd))
  | 0x4#4 => reservedChecked c 0x0FFFFFFE#32 (.clear (destroyField c.cmd))
  | 0x5#4 => reservedChecked c 0x0FFFFF00#32 (.read (regField c.cmd))
  | op    => .illegal (.reservedOpcode op)

/-- The transaction of an instruction (30_encoding.md R82 to R85, R90). DATA is 0 for every command but ABSORB (R90). -/
def encode : Instr → Command
  | .init variant     => ⟨0x10000000#32 ||| BitVec.ofNat 32 variant, 0#64⟩
  | .absorb n data    => ⟨0x20000000#32 ||| BitVec.ofNat 32 n, data⟩
  | .finalize destroy => ⟨0x30000000#32 ||| (BitVec.ofBool destroy).setWidth 32, 0#64⟩
  | .clear destroy    => ⟨0x40000000#32 ||| (BitVec.ofBool destroy).setWidth 32, 0#64⟩
  | .read reg         => ⟨0x50000000#32 ||| BitVec.ofNat 32 reg, 0#64⟩

/-- The transaction whose bits are `w`, numbered as spec/opcode_table.json numbers them: bits 31..0 are CMD and the bits above
are DATA, an operand word the table gives no bits. Bits at `nbits` and above are 0. -/
def tableCommand (nbits w : Nat) : Command :=
  ⟨BitVec.ofNat 32 (w % 2 ^ nbits), BitVec.ofNat 64 (w % 2 ^ nbits / 2 ^ 32)⟩

/-- The instruction the decoder reads from a word of the opcode table. -/
def decodeTableWord (nbits w : Nat) : Option Instr :=
  match decode (tableCommand nbits w) with
  | .instr i   => some i
  | .illegal _ => none

end Sys2Proof
end

