-- ==== Sys2Proof/Machine/State.lean ====
section
/-!
DEFINITION. The state of KCORE: the architectural fields of 10_state.md section 1.1, resp_data of the response port, and the
model's own record of the host (its coming moves, the responses it got, whether it has reset the core, whether any command has
ever failed). Plain data throughout. KCORE has no addressed memory (20_memory.md R60), no general registers (10_state.md R20)
and no program counter (R21).
-/

namespace Sys2Proof.Machine

/-- VAR: the variant of the instance, or none (10_state.md R26). -/
inductive Variant where
  /-- No instance: VAR reads 0. -/
  | unset
  | v224
  | v256
  | v384
  | v512
  deriving DecidableEq, Repr

/-- ERR: the codes of 60_exceptions.md R201. Codes 6..15 are never produced, so they have no constructor. -/
inductive ErrorCode where
  /-- 0: no error recorded since reset or the last successful INIT. -/
  | noError
  /-- 1: INIT with a VARIANT outside 224, 256, 384, 512. -/
  | invalidVariant
  /-- 2: ABSORB, FINALIZE or CLEAR keep while CFG = 0. -/
  | notConfigured
  /-- 3: a reserved opcode or a reserved bit set. -/
  | illegalCommand
  /-- 4: ABSORB with N > 8. -/
  | badCount
  /-- 5: READ of a reserved index. -/
  | badRegister
  deriving DecidableEq, Repr

/-- What the host may do at the command port (70_reset_and_hazards.md R239). -/
inductive HostMove where
  /-- Present a command and wait for its response. -/
  | command (c : Command)
  /-- Assert the hardware reset while no command is in progress. -/
  | reset
  /-- Present a command and assert the hardware reset before it completes: it is abandoned (R231). -/
  | resetDuring (c : Command)
  deriving DecidableEq, Repr

/-- The whole state. -/
structure State where
  /-- The state register (10_state.md R22). -/
  lanes : LaneFile
  /-- CFG: an instance exists (10_state.md R25). -/
  cfg : Bool
  /-- VAR (10_state.md R26). -/
  var : Variant
  /-- PBUF (10_state.md R27). -/
  pbuf : PendingBuffer
  /-- PLEN: the number of valid bytes in PBUF (10_state.md R28). -/
  plen : BitVec 8
  /-- BPROC: bytes consumed by full-block permutations, modulo 2^64 (10_state.md R29). -/
  bproc : Word
  /-- DIG (10_state.md R30). -/
  dig : DigestRegister
  /-- DV: DIG holds a digest (10_state.md R30). -/
  dv : Bool
  /-- ERR: the first error since it was last cleared (10_state.md R31). -/
  err : ErrorCode
  /-- resp_data: RESP of the last command to complete (70_reset_and_hazards.md R229). -/
  resp : Word
  /-- The model's own: a hardware reset has been applied since power-on (70_reset_and_hazards.md R230, R241; log 3). -/
  launched : Bool
  /-- The model's own ghost flag: some command has failed; nothing clears it (93_implementation_defined.md I14; log 4). -/
  everFailed : Bool
  /-- The model's own: the host's coming moves, the next one first (log 1). -/
  port : List HostMove
  /-- The model's own: the responses delivered so far, oldest first (70_reset_and_hazards.md R240; log 2). -/
  responses : List Word
  deriving DecidableEq, Repr

/-- The reasons the machine could stop with a fault. KCORE has none: an error is a next state with ERR recorded, and no command
in any state is stuck (60_exceptions.md R200, R208; 93_implementation_defined.md, "There is no `stuck` entry"). So the type is
empty, and that no step faults holds by its form. -/
inductive Fault where
  deriving DecidableEq, Repr

/-- The reasons a step answers nothing. -/
inductive Refusal where
  /-- Raised only by an arm of `exec` whose instruction has no meaning yet (none is left). Safe. -/
  | notModelled (mnemonic : String)
  /-- Raised by the command port when a command is presented before the first hardware reset: the spec gives the pre-reset
  state no transition but reset (93_implementation_defined.md I8, 70_reset_and_hazards.md R230). Safe: the hardware may do
  anything there, and nothing is claimed of it. -/
  | commandBeforeReset
  deriving DecidableEq, Repr

/-- The machine right after a hardware reset (10_state.md R44, 70_reset_and_hazards.md R230), with no host move pending and no
response delivered. -/
def State.reset : State where
  lanes := Vector.replicate 25 0#64
  cfg := false
  var := .unset
  pbuf := Vector.replicate 144 0#8
  plen := 0#8
  bproc := 0#64
  dig := Vector.replicate 64 0#8
  dv := false
  err := .noError
  resp := 0#64
  launched := true
  everFailed := false
  port := []
  responses := []

end Sys2Proof.Machine
end

