-- ==== Sys2Proof/Machine/Operands.lean ====
section
/-!
DEFINITION. Operand forms and helpers: rotation and byte order (00_scope.md R11, R12), the lane grid (R13), the quantities
derived from the variant (R14), and the message bytes of DATA (20_memory.md R63).
-/

namespace Sys2Proof.Machine

/-- ROTL64(v, n) for 0 <= n <= 63 (00_scope.md R11). -/
def rotl64 (v : Word) (n : Nat) : Word :=
  if n = 0 then v else (v <<< n) ||| (v >>> (64 - n))

/-- LE64(b[0..7]): byte k supplies bits 8k+7:8k (00_scope.md R12). -/
def le64 (b : Nat → Byte) : Word :=
  b 7 ++ b 6 ++ b 5 ++ b 4 ++ b 3 ++ b 2 ++ b 1 ++ b 0

/-- Byte k of a word, bits 8k+7:8k (00_scope.md R12). -/
def byteOf (w : Word) (k : Nat) : Byte := w.extractLsb' (8 * k) 8

/-- LEBYTES(w): the 8 bytes of a word, low-order byte first (00_scope.md R12). -/
def leBytes (w : Word) : List Byte := (List.range 8).map (byteOf w)

/-- The N message bytes of an ABSORB, in message order: byte i is DATA[8i+7:8i] (20_memory.md R63, 30_encoding.md R86). -/
def messageBytes (n : Nat) (data : Word) : List Byte := (List.range n).map (byteOf data)

/-- A lane file whose lane i is `f i`. -/
def ofLanes (f : Nat → Word) : LaneFile :=
  #v[f 0, f 1, f 2, f 3, f 4, f 5, f 6, f 7, f 8, f 9, f 10, f 11, f 12,
     f 13, f 14, f 15, f 16, f 17, f 18, f 19, f 20, f 21, f 22, f 23, f 24]

/-- A lane file whose lane A[x,y] is `f x y` (00_scope.md R13). -/
def ofGrid (f : Nat → Nat → Word) : LaneFile := ofLanes fun i => f (i % 5) (i / 5)

/-- lanes[i]; read through the list of lanes, so that the kernel evaluates it fast. The value past the array is never taken:
every caller reads below 25. -/
def laneNumber (a : LaneFile) (i : Nat) : Word := a.toList.getD i 0#64

/-- A[x,y], with index arithmetic mod 5 (00_scope.md R13). -/
def laneAt (a : LaneFile) (x y : Nat) : Word := laneNumber a (x % 5 + 5 * (y % 5))

/-- VAR as a number; 0 when there is no instance (10_state.md R26, R36). -/
def variantBits : Variant → Nat
  | .unset => 0
  | .v224  => 224
  | .v256  => 256
  | .v384  => 384
  | .v512  => 512

/-- The variant with this number, compared as an unsigned number (30_encoding.md R82, R86). -/
def variantOfNumber (v : Nat) : Option Variant :=
  if v = 224 then some .v224
  else if v = 256 then some .v256
  else if v = 384 then some .v384
  else if v = 512 then some .v512
  else none

/-- BS = 200 - 2*(VAR/8) (00_scope.md R14). -/
def blockSize (v : Variant) : Nat := 200 - 2 * (variantBits v / 8)

/-- RL = BS/8 (00_scope.md R14). -/
def rateLanes (v : Variant) : Nat := blockSize v / 8

/-- DB = VAR/8 (00_scope.md R14). -/
def digestLength (v : Variant) : Nat := variantBits v / 8

/-- PBUF[j]; 0 past the array, which no rule reads while PLEN < BS (10_state.md R27; log 6). -/
def pbufByte (s : State) (j : Nat) : Byte := s.pbuf.toList.getD j 0#8

/-- DIG[k]; 0 past the array, which no rule reads (10_state.md R30). -/
def digByte (s : State) (k : Nat) : Byte := s.dig.toList.getD k 0#8

/-- The value of DIGESTw: LE64(DIG[8w..8w+7]) (10_state.md R38). -/
def digestWord (s : State) (w : Nat) : Word := le64 fun i => digByte s (8 * w + i)

end Sys2Proof.Machine
end

