-- ==== Sys2Proof/Machine/Flags.lean ====
section
/-!
DEFINITION. The status flags and the STATUS register (10_state.md R35, R39). CFG, DV and ERR are flags a command writes; STATUS
is a view of them, of VAR and of PLEN.
-/

namespace Sys2Proof.Machine

/-- The number of an error code, 4 bits (60_exceptions.md R201). -/
def errorNumber : ErrorCode → BitVec 4
  | .noError        => 0#4
  | .invalidVariant => 1#4
  | .notConfigured  => 2#4
  | .illegalCommand => 3#4
  | .badCount       => 4#4
  | .badRegister    => 5#4

/-- The code of a variant in VCODE (10_state.md R35). -/
def variantCode : Variant → BitVec 2
  | .unset => 0#2
  | .v224  => 0#2
  | .v256  => 1#2
  | .v384  => 2#2
  | .v512  => 3#2

/-- VCODE: the variant's code, 0 when CFG = 0 (10_state.md R35). -/
def vcodeField (s : State) : BitVec 2 := if s.cfg then variantCode s.var else 0#2

/-- BSIZE: BS when CFG = 1, 0 when CFG = 0 (10_state.md R35). -/
def bsizeField (s : State) : BitVec 8 := if s.cfg then BitVec.ofNat 8 (blockSize s.var) else 0#8

/-- STATUS() = 8'b0, BSIZE, PLEN, ERR, VCODE, DV, CFG, the first part placed high (10_state.md R35). -/
def statusWord (s : State) : BitVec 32 :=
  0#8 ++ bsizeField s ++ s.plen ++ errorNumber s.err ++ vcodeField s ++ BitVec.ofBool s.dv ++ BitVec.ofBool s.cfg

/-- STATUS as a 64-bit response (10_state.md R35, 30_encoding.md R81). -/
def statusResponse (s : State) : Word := (statusWord s).setWidth 64

end Sys2Proof.Machine
end

