-- ==== Sys2Proof/Machine/Ops.lean ====
section
/-!
DEFINITION. The named operations that the commands share: responding, failing (KCORE's whole "exception", 60_exceptions.md
R200: there is no trap to take and none to return from, R208, R209), clearing the computation, clearing the digest, releasing
the instance, the hardware reset, and the record of a delivered response.
-/

namespace Sys2Proof.Machine

/-- resp <- v (00_scope.md R13). -/
def respond (v : Word) (s : State) : State := { s with resp := v }

/-- resp <- zext_64(STATUS()), taken after the command's effect (30_encoding.md R81). -/
def respondStatus (s : State) : State := respond (statusResponse s) s

/-- ERR <- code only if ERR = 0: the first error is kept (60_exceptions.md R200). The ghost flag is set
(93_implementation_defined.md I14). -/
def recordError (code : ErrorCode) (s : State) : State :=
  { s with err := if s.err = .noError then code else s.err, everFailed := true }

/-- fail(code): record the error and return STATUS; nothing else changes (60_exceptions.md R200). -/
def failWith (code : ErrorCode) (s : State) : State := respondStatus (recordError code s)

/-- clear_computation() (10_state.md R45). -/
def clearComputation (s : State) : State :=
  { s with
    lanes := Vector.replicate 25 0#64
    pbuf := Vector.replicate 144 0#8
    plen := 0#8
    bproc := 0#64 }

/-- DIG[k] <- 0 for every k, DV <- 0 (43_control.md R180, R183). -/
def clearDigest (s : State) : State := { s with dig := Vector.replicate 64 0#8, dv := false }

/-- CFG <- 1, VAR <- v (43_control.md R180). -/
def configure (v : Variant) (s : State) : State := { s with cfg := true, var := v }

/-- ERR <- 0 (43_control.md R180). -/
def clearError (s : State) : State := { s with err := .noError }

/-- if D = 1: CFG <- 0, VAR <- 0 (42_finalize.md R163, 43_control.md R183). -/
def releaseIf (destroy : Bool) (s : State) : State :=
  if destroy then { s with cfg := false, var := .unset } else s

/-- The hardware reset: every architectural field and resp_data take their reset values (70_reset_and_hazards.md R230), and the
core has now been reset since power-on. The host's moves and its record of responses are not the core's, and the ghost flag is
never cleared (93_implementation_defined.md I14). -/
def hardwareReset (s : State) : State :=
  { State.reset with port := s.port, responses := s.responses, everFailed := s.everFailed }

/-- resp_valid: the response of a completed command is delivered to the host (70_reset_and_hazards.md R229, R240). -/
def recordResponse (s : State) : State := { s with responses := s.responses ++ [s.resp] }

/-- The outcome of a command as the host sees it: its next state with the response delivered. -/
def delivered : Host.Outcome State Fault Refusal → Host.Outcome State Fault Refusal
  | .next s    => .next (recordResponse s)
  | .fault r   => .fault r
  | .refused r => .refused r

end Sys2Proof.Machine
end

