-- ==== Sys2Proof/Machine/Permutation.lean ====
section
/-!
DEFINITION. The permutation engine: Theta, Rho, Pi, Chi, Iota and the 24 rounds of Keccak-f[1600] (40_permutation.md R110 to
R122), with the rotation offsets and the round-constant ROM. Theta and Chi follow the resolutions C2 and C3 of 90_conflicts.md.
-/

namespace Sys2Proof.Machine

/-- C[x]: the XOR-parity of column x (40_permutation.md R113). -/
def columnParity (a : LaneFile) (x : Nat) : Word :=
  laneAt a x 0 ^^^ laneAt a x 1 ^^^ laneAt a x 2 ^^^ laneAt a x 3 ^^^ laneAt a x 4

/-- D[x] = C[x-1] ^ ROTL64(C[x+1], 1), indices mod 5 (40_permutation.md R113). -/
def thetaValue (a : LaneFile) (x : Nat) : Word :=
  columnParity a (x + 4) ^^^ rotl64 (columnParity a (x + 1)) 1

/-- Theta (40_permutation.md R113; 90_conflicts.md C2). -/
def theta (a : LaneFile) : LaneFile := ofGrid fun x y => laneAt a x y ^^^ thetaValue a x

/-- The rotation offsets by lane number x + 5y (40_permutation.md R115). -/
def rotationOffsets : Vector Nat 25 :=
  #v[ 0,  1, 62, 28, 27,
     36, 44,  6, 55, 20,
      3, 10, 43, 25, 39,
     41, 45, 15, 21,  8,
     18,  2, 61, 56, 14]

/-- r[x,y] (40_permutation.md R115). -/
def rotationOffset (x y : Nat) : Nat := rotationOffsets[x % 5 + 5 * (y % 5)]

/-- Rho (40_permutation.md R114). -/
def rho (a : LaneFile) : LaneFile := ofGrid fun x y => rotl64 (laneAt a x y) (rotationOffset x y)

/-- Pi, in the form A'[x,y] = A[(x+3y) mod 5, x] (40_permutation.md R116). -/
def piStep (a : LaneFile) : LaneFile := ofGrid fun x y => laneAt a (x + 3 * y) x

/-- Chi (40_permutation.md R117; 90_conflicts.md C3). -/
def chi (a : LaneFile) : LaneFile :=
  ofGrid fun x y => laneAt a x y ^^^ (~~~(laneAt a (x + 1) y) &&& laneAt a (x + 2) y)

/-- The round-constant ROM (40_permutation.md R119). -/
def roundConstants : Vector Word 24 :=
  #v[0x0000000000000001#64, 0x0000000000008082#64, 0x800000000000808A#64, 0x8000000080008000#64,
     0x000000000000808B#64, 0x0000000080000001#64, 0x8000000080008081#64, 0x8000000000008009#64,
     0x000000000000008A#64, 0x0000000000000088#64, 0x0000000080008009#64, 0x000000008000000A#64,
     0x000000008000808B#64, 0x800000000000008B#64, 0x8000000000008089#64, 0x8000000000008003#64,
     0x8000000000008002#64, 0x8000000000000080#64, 0x000000000000800A#64, 0x800000008000000A#64,
     0x8000000080008081#64, 0x8000000000008080#64, 0x0000000080000001#64, 0x8000000080008008#64]

/-- Iota: lane 0 is XORed with RC[i]; every other lane is kept (40_permutation.md R118). -/
def iota (a : LaneFile) (i : Fin 24) : LaneFile := a.set 0 (laneAt a 0 0 ^^^ roundConstants[i])

/-- Round(A, i) (40_permutation.md R111). -/
def keccakRound (a : LaneFile) (i : Fin 24) : LaneFile := iota (chi (piStep (rho (theta a)))) i

/-- KeccakF: rounds 0 to 23 in increasing order (40_permutation.md R112). Irreducible, so that comparing two states never starts
to compute 24 rounds; `unfold keccakF` and kernel evaluation see through it. -/
@[irreducible] def keccakF (a : LaneFile) : LaneFile := (List.finRange 24).foldl keccakRound a

end Sys2Proof.Machine
end

