-- ==== Sys2Proof/Machine/Absorb.lean ====
section
/-!
DEFINITION. The absorption unit: the rate-masking multiplexer, block absorption, the block-boundary detector, and ABSORB
(41_absorb.md R140 to R144).
-/

namespace Sys2Proof.Machine

/-- The rate-masking multiplexer for RL = `rl` rate lanes: lane i passes XORed with LE64(block[8i..8i+7]) when i < RL and
unchanged otherwise (41_absorb.md R140). -/
def xorBlock (rl : Nat) (block : Nat → Byte) (a : LaneFile) : LaneFile :=
  ofLanes fun i => if i < rl then laneNumber a i ^^^ le64 (fun k => block (8 * i + k)) else laneNumber a i

/-- AbsorbBlock: XOR one block into the rate lanes, then permute; only the lanes are written (41_absorb.md R141). -/
def absorbBlock (block : Nat → Byte) (s : State) : State :=
  { s with lanes := keccakF (xorBlock (rateLanes s.var) block s.lanes) }

/-- PBUF[PLEN] <- b, PLEN <- PLEN + 1 (41_absorb.md R142). -/
def appendByte (b : Byte) (s : State) : State :=
  { s with pbuf := s.pbuf.setIfInBounds s.plen.toNat b, plen := s.plen + 1#8 }

/-- The block-boundary detector: PLEN = BS (41_absorb.md R142). -/
def blockFull (s : State) : Bool := decide (s.plen.toNat = blockSize s.var)

/-- AbsorbBlock(PBUF[0..BS-1]), PLEN <- 0, BPROC <- (BPROC + BS) mod 2^64 (41_absorb.md R142). -/
def flushBlock (s : State) : State :=
  { absorbBlock (pbufByte s) s with plen := 0#8, bproc := s.bproc + BitVec.ofNat 64 (blockSize s.var) }

/-- AbsorbByte (41_absorb.md R142). -/
def absorbByte (s : State) (b : Byte) : State :=
  if blockFull (appendByte b s) then flushBlock (appendByte b s) else appendByte b s

/-- AbsorbByte for each byte of a list, in order (41_absorb.md R144, R145). -/
def absorbBytes (bs : List Byte) (s : State) : State := bs.foldl absorbByte s

/-- ABSORB(N, DATA) (41_absorb.md R144). -/
def execAbsorb (n : Nat) (data : Word) (s : State) : Host.Outcome State Fault Refusal :=
  if 8 < n then .next (failWith .badCount s)
  else if s.cfg = false then .next (failWith .notConfigured s)
  else .next (respondStatus (absorbBytes (messageBytes n data) s))

end Sys2Proof.Machine
end

