-- ==== Sys2Proof/Machine/Control.lean ====
section
/-!
DEFINITION. Lifecycle and register access: INIT, CLEAR, READ (43_control.md R180, R183, R185), and the execution of a word
that decodes as ILLEGAL (60_exceptions.md R202).
-/

namespace Sys2Proof.Machine

/-- The state a successful INIT of variant `v` leaves, before its response (43_control.md R180). -/
def freshInstance (v : Variant) (s : State) : State :=
  clearError (clearDigest (configure v (clearComputation s)))

/-- INIT(VARIANT) (43_control.md R180). -/
def execInit (variant : Nat) (s : State) : Host.Outcome State Fault Refusal :=
  match variantOfNumber variant with
  | none   => .next (failWith .invalidVariant s)
  | some v => .next (respondStatus (freshInstance v s))

/-- CLEAR(D) (43_control.md R183). -/
def execClear (destroy : Bool) (s : State) : Host.Outcome State Fault Refusal :=
  if destroy = false ∧ s.cfg = false then .next (failWith .notConfigured s)
  else .next (respondStatus (releaseIf destroy (clearDigest (clearComputation s))))

/-- The register map of READ: the value at a legal index, nothing at a reserved one (10_state.md R34, 43_control.md R185). -/
def readRegister (reg : Nat) (s : State) : Option Word :=
  if reg = 0x00 then some (statusResponse s)
  else if reg = 0x01 then some (BitVec.ofNat 64 (variantBits s.var))
  else if reg = 0x02 then some s.bproc
  else if 0x08 ≤ reg ∧ reg ≤ 0x0F then some (digestWord s (reg - 8))
  else none

/-- READ(REG) (43_control.md R185). -/
def execRead (reg : Nat) (s : State) : Host.Outcome State Fault Refusal :=
  match readRegister reg s with
  | some v => .next (respond v s)
  | none   => .next (failWith .badRegister s)

/-- Executing a word that decodes as ILLEGAL (30_encoding.md R87, 60_exceptions.md R202). -/
def execIllegal (s : State) : Host.Outcome State Fault Refusal := .next (failWith .illegalCommand s)

end Sys2Proof.Machine
end

