-- ==== Sys2Proof/Machine/Finalize.lean ====
section
/-!
DEFINITION. The pad10*1 finalizer, digest extraction and FINALIZE (42_finalize.md R160 to R163). The digest words follow the
resolution C1 of 90_conflicts.md.
-/

namespace Sys2Proof.Machine

/-- PadBlock: the pending bytes, then 0x01, then zeros, with 0x80 ORed into byte BS-1 (42_finalize.md R160). Byte j of the
image, for j < BS. -/
def padBlock (s : State) (j : Nat) : Byte :=
  (if j < s.plen.toNat then pbufByte s j else if j = s.plen.toNat then 0x01#8 else 0x00#8) |||
    (if j = blockSize s.var - 1 then 0x80#8 else 0x00#8)

/-- What FINALIZE writes to DIG: byte k is byte k mod 8 of lane k div 8 for k < DB, and 0 for DB <= k < 64
(42_finalize.md R162, R163). Irreducible for the same reason as `keccakF`. -/
@[irreducible] def digestOf (v : Variant) (a : LaneFile) : DigestRegister :=
  Vector.ofFn fun k : Fin 64 =>
    if k.val < digestLength v then byteOf (laneNumber a (k.val / 8)) (k.val % 8) else 0x00#8

/-- DIG <- the digest, DV <- 1 (42_finalize.md R163). -/
def latchDigest (s : State) : State := { s with dig := digestOf s.var s.lanes, dv := true }

/-- FINALIZE(D) (42_finalize.md R163). -/
def execFinalize (destroy : Bool) (s : State) : Host.Outcome State Fault Refusal :=
  if s.cfg = false then .next (failWith .notConfigured s)
  else .next (respondStatus (releaseIf destroy (clearComputation (latchDigest (absorbBlock (padBlock s) s)))))

end Sys2Proof.Machine
end

