-- ==== Sys2Proof/Machine/Dispatch.lean ====
section
/-!
DEFINITION. One arm per constructor of Instr.
-/

namespace Sys2Proof.Machine

def exec (i : Instr) (s : State) : Host.Outcome State Fault Refusal :=
  match i with
  | .init variant => Sys2Proof.Machine.execInit variant s
  | .absorb n data => Sys2Proof.Machine.execAbsorb n data s
  | .finalize destroy => Sys2Proof.Machine.execFinalize destroy s
  | .clear destroy => Sys2Proof.Machine.execClear destroy s
  | .read reg => Sys2Proof.Machine.execRead reg s

end Sys2Proof.Machine
end

