-- ==== Sys2Proof/Machine/Port.lean ====
section
/-!
DEFINITION. The command port: what one host move does to the core (70_reset_and_hazards.md R229 to R233, R239). KCORE fetches
nothing (10_state.md R21): the host's next move is what a step runs.
-/

namespace Sys2Proof.Machine

/-- One command word executed: a legal word runs its instruction, an ILLEGAL word fails (30_encoding.md R87). -/
def runWord (c : Command) (s : State) : Host.Outcome State Fault Refusal :=
  match decode c with
  | .instr i   => exec i s
  | .illegal _ => execIllegal s

/-- One host move. A command completes and its response is delivered; a reset gives the reset state, and a command it falls
into is abandoned without a response (70_reset_and_hazards.md R230, R231). Before the first reset the core takes no command
(93_implementation_defined.md I8). -/
def acceptMove (m : HostMove) (s : State) : Host.Outcome State Fault Refusal :=
  match m with
  | .command c     => if s.launched then delivered (runWord c s) else .refused .commandBeforeReset
  | .reset         => .next (hardwareReset s)
  | .resetDuring _ => .next (hardwareReset s)

/-- The host's next move is taken from the port and happens; with none left the core is idle and keeps its state
(60_exceptions.md R216, 70_reset_and_hazards.md R240). -/
def takeMove (s : State) : Host.Outcome State Fault Refusal :=
  match s.port with
  | []        => .next s
  | m :: rest => acceptMove m { s with port := rest }

/-- The host places a move before the moves it already has. -/
def placeMove (m : HostMove) (s : State) : State := { s with port := m :: s.port }

end Sys2Proof.Machine
end

