-- ==== Sys2Proof/Machine/Step.lean ====
section
/-!
DEFINITION. One step of the machine: the host's next move (Machine/Port), and where the host's check places an instruction.
-/

namespace Sys2Proof.Machine

/-- One step: the host's next move, or nothing when it has none. -/
def step (s : State) : Host.Outcome State Fault Refusal := takeMove s

/-- `s` with the instruction of an opcode-table word as the host's very next command. -/
def State.withFetchWord (s : State) (nbits w : Nat) : State :=
  placeMove (.command (tableCommand nbits w)) s

end Sys2Proof.Machine
end

