-- ==== Sys2Proof/Machine/Assembler.lean ====
section
/-!
DEFINITION. The host's side of the commands: the assembler's lines and the operands it refuses (30_encoding.md R90), the
pseudo-instructions UPDATE, NOP, READDIGEST and HASH (R91, R92), the facade calls create, update and finalize
(43_control.md R186), and hex rendering (R188). None of it is in the core: it yields commands, or reads responses.
-/

namespace Sys2Proof.Machine

/-- An assembler line, its operands as the numbers written (30_encoding.md R90). -/
inductive AsmLine where
  | init (v : Nat)
  | absorb (n d : Nat)
  | finalize (k : Nat)
  | clear (k : Nat)
  | read (r : Nat)
  deriving DecidableEq, Repr

/-- The names a line may give a register (30_encoding.md R90). -/
def registerNamed (name : String) : Option Nat :=
  if name = "STATUS" then some 0x00
  else if name = "VARIANT" then some 0x01
  else if name = "BYTES" then some 0x02
  else if name = "DIGEST0" then some 0x08
  else if name = "DIGEST1" then some 0x09
  else if name = "DIGEST2" then some 0x0A
  else if name = "DIGEST3" then some 0x0B
  else if name = "DIGEST4" then some 0x0C
  else if name = "DIGEST5" then some 0x0D
  else if name = "DIGEST6" then some 0x0E
  else if name = "DIGEST7" then some 0x0F
  else none

/-- The spellings `keep` and `destroy` of the DESTROY operand (30_encoding.md R90). -/
def destroyNamed (name : String) : Option Nat :=
  if name = "keep" then some 0 else if name = "destroy" then some 1 else none

/-- The instruction a line stands for; an operand that does not fit its field is refused, and a value that fits but fails at
execution is accepted (30_encoding.md R90). -/
def assembleLine : AsmLine → Option Instr
  | .init v     => if v < 2 ^ 16 then some (.init v) else none
  | .absorb n d => if n < 16 ∧ d < 2 ^ 64 then some (.absorb n (BitVec.ofNat 64 d)) else none
  | .finalize k => if k ≤ 1 then some (.finalize (decide (k = 1))) else none
  | .clear k    => if k ≤ 1 then some (.clear (decide (k = 1))) else none
  | .read r     => if r < 256 then some (.read r) else none

/-- The transaction a line encodes (30_encoding.md R90). -/
def assemble (l : AsmLine) : Option Command := (assembleLine l).map encode

/-- LE64 of the 8 bytes of a list from `start`, bytes past its end read as 0 (30_encoding.md R91). -/
def wordFromBytes (bs : List Byte) (start : Nat) : Word := le64 fun i => bs.getD (start + i) 0x00#8

/-- UPDATE: floor(L/8) whole words, then the L mod 8 bytes left, if any (30_encoding.md R91). -/
def updateCommands (bs : List Byte) : List Instr :=
  (List.range (bs.length / 8)).map (fun q => .absorb 8 (wordFromBytes bs (8 * q))) ++
    if bs.length % 8 = 0 then []
    else [.absorb (bs.length % 8) (wordFromBytes bs (8 * (bs.length / 8)))]

/-- NOP: READ STATUS (30_encoding.md R92). -/
def nopCommand : Instr := .read 0x00

/-- READDIGEST: READ DIGEST0 .. READ DIGEST(W-1), W = ceil(DB/8) (30_encoding.md R92). R92 gives W for the four variants only;
for `.unset` it is the formula's 0 reads here (log 13, DESIGN CHOICE). -/
def readDigestCommands (v : Variant) : List Instr :=
  (List.range ((digestLength v + 7) / 8)).map fun w => .read (0x08 + w)

/-- HASH <v>, for v one of the four variants (30_encoding.md R92). The spec leaves open how many READs `HASH <v>` expands to for
any other v, such as `HASH 100`, since READDIGEST's W is given for the four only. DESIGN CHOICE (log 13): this function takes a
variant, so such a line is not written with it, and its value at `.unset` (INIT 0 and no READ) stands for no line. -/
def hashCommands (v : Variant) (bs : List Byte) : List Instr :=
  .init (variantBits v) :: (updateCommands bs ++ .finalize false :: readDigestCommands v)

/-- The facade's create succeeded: RESP[7:4] = 0 (43_control.md R186). -/
def createSucceeded (resp : Word) : Bool := decide (resp.extractLsb' 4 4 = 0#4)

/-- The facade's finalize with its `destroy` flag, on an instance the host knows to be of variant `v`, one of the four
(43_control.md R186; `.unset` is log 13). -/
def finalizeCommands (v : Variant) (destroy : Bool) : List Instr := .finalize destroy :: readDigestCommands v

/-- The digest bytes the host takes from the responses to READDIGEST: the first DB bytes of their LEBYTES
(30_encoding.md R92, 43_control.md R186). -/
def digestFromResponses (v : Variant) (rs : List Word) : List Byte := (rs.flatMap leBytes).take (digestLength v)

/-- The hexadecimal digits, lowercase (43_control.md R188). -/
def hexDigits : Vector Char 16 :=
  #v['0', '1', '2', '3', '4', '5', '6', '7', '8', '9', 'a', 'b', 'c', 'd', 'e', 'f']

/-- The digit of a nibble (43_control.md R188). -/
def hexDigit (n : BitVec 4) : Char := hexDigits[n.toNat]

/-- Hex: two digits per byte, high nibble first (43_control.md R188). -/
def hexText (d : List Byte) : List Char :=
  d.flatMap fun b => [hexDigit (b.extractLsb' 4 4), hexDigit (b.extractLsb' 0 4)]

end Sys2Proof.Machine
end

