-- ==== Sys2Proof/Safety.lean ====
section
/-!
DEFINITION. The terms in which claims speak: what is consistent in a state and kept by every step, the launch premise
KCORE_CLEAN_LAUNCH, which command fails with which code, what a failure is, runs of commands with their responses, states that
differ only in what no command shows, and the reference functions the core is compared with (the sponge over a whole padded
message, the source's three-phase update, the traversal form of Rho and Pi, the published constructions of the two tables).
-/

namespace Sys2Proof.Machine

/-! ### Consistent states -/

/-- VAR and PLEN fit CFG: a variant and PLEN < BS when CFG = 1, no variant and PLEN = 0 when CFG = 0 (10_state.md R26, R28). -/
def InstanceShape (s : State) : Prop :=
  (s.cfg = true → s.var ≠ .unset ∧ s.plen.toNat < blockSize s.var) ∧ (s.cfg = false → s.var = .unset ∧ s.plen = 0#8)

/-- With no instance the computation is clear (10_state.md R44, R45; every release clears it first, R39). -/
def ReleasedIsClear (s : State) : Prop :=
  s.cfg = false → s.lanes = Vector.replicate 25 0#64 ∧ s.pbuf = Vector.replicate 144 0#8 ∧ s.bproc = 0#64

/-- With DV = 0 the digest register is 0 (10_state.md R30, R44). -/
def NoDigestIsZero (s : State) : Prop := s.dv = false → s.dig = Vector.replicate 64 0#8

/-- While an instance exists, DIG holds nothing at or above its digest length (10_state.md R30, R38). -/
def DigestFits (s : State) : Prop :=
  s.cfg = true → ∀ k, digestLength s.var ≤ k → digByte s k = 0#8

/-- An error in ERR is one the ghost flag has seen (93_implementation_defined.md I14). -/
def GhostCoversErr (s : State) : Prop := s.err ≠ .noError → s.everFailed = true

/-- The relations between fields that hold from the first hardware reset on. -/
def Consistent (s : State) : Prop :=
  InstanceShape s ∧ ReleasedIsClear s ∧ NoDigestIsZero s ∧ DigestFits s ∧ GhostCoversErr s

/-- The invariant of the machine: once a hardware reset has been applied, the state is consistent. Nothing is said of the state
before the first reset (93_implementation_defined.md I8). -/
def Inv (s : State) : Prop := s.launched = true → Consistent s

/-- Two states with the same architectural fields (10_state.md section 1.1). -/
def SameArchitecture (s t : State) : Prop :=
  s.lanes = t.lanes ∧ s.cfg = t.cfg ∧ s.var = t.var ∧ s.pbuf = t.pbuf ∧ s.plen = t.plen ∧ s.bproc = t.bproc ∧
    s.dig = t.dig ∧ s.dv = t.dv ∧ s.err = t.err

/-- KCORE_CLEAN_LAUNCH: a hardware reset has been applied since power-on and the state is that of 10_state.md R44
(70_reset_and_hazards.md R241). No command is in flight in any State: a command is one step. -/
def CleanLaunch (s : State) : Prop := s.launched = true ∧ SameArchitecture s State.reset

/-! ### Failures -/

/-- Which code a well-formed command fails with, operand check before state check; nothing when it succeeds
(60_exceptions.md R203 to R207). -/
def failureOf (i : Instr) (s : State) : Option ErrorCode :=
  match i with
  | .init v       => if v = 224 ∨ v = 256 ∨ v = 384 ∨ v = 512 then none else some .invalidVariant
  | .absorb n _   => if 9 ≤ n then some .badCount else if s.cfg = false then some .notConfigured else none
  | .finalize _   => if s.cfg = false then some .notConfigured else none
  | .clear d      => if d = false ∧ s.cfg = false then some .notConfigured else none
  | .read r       => if r ≤ 0x02 ∨ (0x08 ≤ r ∧ r ≤ 0x0F) then none else some .badRegister

/-- `t` is what a failure with `code` makes of `s`: ERR takes the code if it was 0, the ghost flag is set, RESP is STATUS, and
nothing else changes (60_exceptions.md R200, 93_implementation_defined.md I14). -/
def FailedState (code : ErrorCode) (s t : State) : Prop :=
  t.err = (if s.err = .noError then code else s.err) ∧ t.everFailed = true ∧ t.resp = statusResponse t ∧
    t = { s with err := t.err, everFailed := t.everFailed, resp := t.resp }

/-- The command completes by failing with `code`. -/
def FailsWith (code : ErrorCode) (s : State) (o : Host.Outcome State Fault Refusal) : Prop :=
  ∃ t, o = .next t ∧ FailedState code s t

/-! ### Runs of commands -/

/-- The commands of a list, one after another (20_memory.md R69). -/
def execAll : List Instr → State → Host.Outcome State Fault Refusal
  | [], s => .next s
  | i :: is, s =>
    match exec i s with
    | .next t    => execAll is t
    | .fault r   => .fault r
    | .refused r => .refused r

/-- The responses to the commands of a list, in order (70_reset_and_hazards.md R240). -/
def responsesOf : List Instr → State → List Word
  | [], _ => []
  | i :: is, s =>
    match exec i s with
    | .next t    => t.resp :: responsesOf is t
    | .fault _   => []
    | .refused _ => []

/-- The host's moves for a list of instructions: each as its encoded command. -/
def movesOf (is : List Instr) : List HostMove := is.map fun i => .command (encode i)

/-- ABSORB commands for a list of counts and data words. -/
def absorbCommands (cs : List (Nat × Word)) : List Instr := cs.map fun c => .absorb c.1 c.2

/-- The message bytes of a list of counts and data words, in message order. -/
def chunkBytes (cs : List (Nat × Word)) : List Byte := cs.flatMap fun c => messageBytes c.1 c.2

/-! ### What no command shows -/

/-- Two states that differ at most in PBUF bytes at index PLEN and above (10_state.md R27). -/
def SameUpToStaleBytes (s t : State) : Prop :=
  t = { s with pbuf := t.pbuf } ∧ ∀ j, j < s.plen.toNat → pbufByte t j = pbufByte s j

/-- Two states that differ at most in the lanes and the PBUF contents (10_state.md R32). -/
def SameUpToSecret (s t : State) : Prop := t = { s with lanes := t.lanes, pbuf := t.pbuf }

/-! ### Reference functions -/

/-- The message with its pad10*1 padding: 0x01, zeros, 0x80 up to a whole number of blocks, or the one byte 0x81 when one byte
is missing (42_finalize.md R160, R161). -/
def padMessage (v : Variant) (m : List Byte) : List Byte :=
  if m.length % blockSize v = blockSize v - 1 then m ++ [0x81#8]
  else m ++ 0x01#8 :: (List.replicate (blockSize v - m.length % blockSize v - 2) 0x00#8 ++ [0x80#8])

/-- The state after the blocks of a padded message, from the all-zero state: each block is XORed into the rate lanes, then the
state is permuted (20_memory.md R62, 41_absorb.md R141). -/
def spongeLanes (v : Variant) (p : List Byte) : LaneFile :=
  (List.range (p.length / blockSize v)).foldl
    (fun a q => keccakF (xorBlock (rateLanes v) (fun j => p.getD (q * blockSize v + j) 0x00#8) a))
    (Vector.replicate 25 0#64)

/-- The Keccak hash of a whole message, as DIG holds it. -/
def keccakHash (v : Variant) (m : List Byte) : DigestRegister := digestOf v (spongeLanes v (padMessage v m))

/-- Store a list of bytes into PBUF from index `at_`. -/
def storeBytes (at_ : Nat) (bs : List Byte) (p : PendingBuffer) : PendingBuffer :=
  match bs with
  | []      => p
  | b :: bs => storeBytes (at_ + 1) bs (p.setIfInBounds at_ b)

/-- A block absorbed with its count, leaving PBUF as it is. -/
def absorbDirect (block : Nat → Byte) (s : State) : State :=
  { absorbBlock block s with bproc := s.bproc + BitVec.ofNat 64 (blockSize s.var) }

/-- The source's update in three phases: fill the buffer to a boundary, absorb full blocks directly from the input, copy the
tail into the buffer (41_absorb.md R143). -/
def threePhaseUpdate (bs : List Byte) (s : State) : State :=
  if s.plen.toNat + bs.length < blockSize s.var then
    { s with pbuf := storeBytes s.plen.toNat bs s.pbuf, plen := s.plen + BitVec.ofNat 8 bs.length }
  else
    let filled := storeBytes s.plen.toNat (bs.take (blockSize s.var - s.plen.toNat)) s.pbuf
    let input := bs.drop (blockSize s.var - s.plen.toNat)
    let first := { absorbDirect (fun j => filled[j]?.getD 0x00#8) s with pbuf := filled, plen := 0#8 }
    let full := (List.range (input.length / blockSize s.var)).foldl
      (fun t q => absorbDirect (fun j => input.getD (q * blockSize s.var + j) 0x00#8) t) first
    let tail := input.drop (input.length / blockSize s.var * blockSize s.var)
    { full with pbuf := storeBytes 0 tail full.pbuf, plen := BitVec.ofNat 8 tail.length }

/-- The destinations of the traversal form of Rho and Pi (40_permutation.md R120). -/
def traversalLanes : List (Fin 25) :=
  [10, 7, 11, 17, 18, 3, 5, 16, 8, 21, 24, 4, 15, 23, 19, 13, 12, 2, 20, 14, 22, 9, 6, 1]

/-- The rotations of the traversal form of Rho and Pi (40_permutation.md R120). -/
def traversalRotations : List Nat :=
  [1, 3, 6, 10, 15, 21, 28, 36, 45, 55, 2, 14, 27, 41, 56, 8, 25, 43, 62, 18, 39, 61, 20, 44]

/-- One step of the traversal: the carried lane, rotated, replaces the lane at the destination, which is carried on. -/
def traversalStep (c : LaneFile × Word) (d : Fin 25 × Nat) : LaneFile × Word :=
  (c.1.set d.1.val (rotl64 c.2 d.2) d.1.isLt, c.1[d.1.val]'d.1.isLt)

/-- RhoPi_in_place (40_permutation.md R120). -/
def rhoPiInPlace (a : LaneFile) : LaneFile :=
  ((traversalLanes.zip traversalRotations).foldl traversalStep (a, a[1])).1

/-- The position (x,y) after `t` steps of the walk (x,y) <- (y, 2x+3y mod 5) from (1,0) (40_permutation.md R115). -/
def offsetWalk : Nat → Nat × Nat
  | 0     => (1, 0)
  | t + 1 => ((offsetWalk t).2, (2 * (offsetWalk t).1 + 3 * (offsetWalk t).2) % 5)

/-- The LFSR register of the polynomial x^8 + x^6 + x^5 + x^4 + 1 after `t` steps from 1 (40_permutation.md R119). -/
def lfsrRegister : Nat → BitVec 8
  | 0     => 1#8
  | t + 1 => (lfsrRegister t <<< 1) ^^^ (if (lfsrRegister t).msb then 0x71#8 else 0x00#8)

/-- rc(t): bit 0 of the register after t mod 255 steps (40_permutation.md R119). -/
def lfsrBit (t : Nat) : Bool := (lfsrRegister (t % 255)).getLsbD 0

end Sys2Proof.Machine
end

