-- ==== Sys2Proof/Certificates/Slice0/Obligations.lean ====
section
/-!
DEFINITION. The statements for the provers, from the numbered rules of spec/. "Consistent" and "Inv" (Safety) are the model's
invariant; a statement that could fail only in states no run reaches takes the part of it that it needs as a premise.
-/

open Sys2Proof Sys2Proof.Machine

/-! ### Encoding -/

/-- 30_encoding.md section 3.6 (R93, which the spec marks derived): the fifteen encoding examples decode to what their
assembly says. -/
def Obligations.EncodingExamplesDecode : Prop :=
  decode ⟨0x100000E0#32, 0#64⟩ = .instr (.init 224) ∧ decode ⟨0x10000100#32, 0#64⟩ = .instr (.init 256) ∧
  decode ⟨0x10000180#32, 0#64⟩ = .instr (.init 384) ∧ decode ⟨0x10000200#32, 0#64⟩ = .instr (.init 512) ∧
  decode ⟨0x20000003#32, 0x636261#64⟩ = .instr (.absorb 3 0x636261#64) ∧
  decode ⟨0x20000008#32, 0x0706050403020100#64⟩ = .instr (.absorb 8 0x0706050403020100#64) ∧
  decode ⟨0x20000000#32, 0#64⟩ = .instr (.absorb 0 0#64) ∧
  decode ⟨0x30000000#32, 0#64⟩ = .instr (.finalize false) ∧ decode ⟨0x30000001#32, 0#64⟩ = .instr (.finalize true) ∧
  decode ⟨0x40000000#32, 0#64⟩ = .instr (.clear false) ∧ decode ⟨0x40000001#32, 0#64⟩ = .instr (.clear true) ∧
  decode ⟨0x50000000#32, 0#64⟩ = .instr (.read 0x00) ∧ decode ⟨0x50000002#32, 0#64⟩ = .instr (.read 0x02) ∧
  decode ⟨0x50000008#32, 0#64⟩ = .instr (.read 0x08) ∧ decode ⟨0x5000000F#32, 0#64⟩ = .instr (.read 0x0F)

/-- Decoding the encoding of any well-formed instruction gives it back, every operand at every value its field admits. -/
def Obligations.DecodeOfEncode : Prop :=
  ∀ i : Instr, i.wellFormed = true → decode (encode i) = .instr i

/-- A command word has one meaning: what decodes is well formed and encodes back to the same word, and an ABSORB carries the
transaction's DATA. -/
def Obligations.EncodeOfDecode : Prop :=
  ∀ (c : Command) (i : Instr), decode c = .instr i →
    i.wellFormed = true ∧ (encode i).cmd = c.cmd ∧ ∀ n d, i = .absorb n d → d = c.data

/-- spec/opcode_table.json and 30_encoding.md R86, R87: a word decodes to a row's instruction exactly when (CMD & mask) =
match of that row, with the operand of its field; so at most one row matches. -/
def Obligations.OpcodeRowsDecode : Prop :=
  ∀ c : Command,
    (∀ v, decode c = .instr (.init v) ↔ c.cmd &&& 0xFFFF0000#32 = 0x10000000#32 ∧ v = c.cmd.toNat % 2 ^ 16) ∧
    (∀ n d, decode c = .instr (.absorb n d) ↔
      c.cmd &&& 0xFFFFFFF0#32 = 0x20000000#32 ∧ n = c.cmd.toNat % 2 ^ 4 ∧ d = c.data) ∧
    (∀ b, decode c = .instr (.finalize b) ↔
      c.cmd &&& 0xFFFFFFFE#32 = 0x30000000#32 ∧ b = decide (c.cmd.toNat % 2 = 1)) ∧
    (∀ b, decode c = .instr (.clear b) ↔
      c.cmd &&& 0xFFFFFFFE#32 = 0x40000000#32 ∧ b = decide (c.cmd.toNat % 2 = 1)) ∧
    (∀ r, decode c = .instr (.read r) ↔ c.cmd &&& 0xFFFFFF00#32 = 0x50000000#32 ∧ r = c.cmd.toNat % 2 ^ 8)

/-- 60_exceptions.md R202: the words that decode as ILLEGAL are exactly the five classes, and each of them, at every CFG
value, fails with ILLEGAL_COMMAND. That a failure also sets the ghost flag `everFailed`, which FailsWith says, is the model's
choice (log 4, DESIGN CHOICE; 93_implementation_defined.md I14). -/
def Obligations.IllegalCommandRaised : Prop :=
  ∀ c : Command,
    ((∃ why, decode c = .illegal why) ↔
      (c.cmd.extractLsb' 28 4 = 0x0#4 ∨ 0x6#4 ≤ c.cmd.extractLsb' 28 4) ∨
      (c.cmd.extractLsb' 28 4 = 0x1#4 ∧ c.cmd.extractLsb' 16 12 ≠ 0#12) ∨
      (c.cmd.extractLsb' 28 4 = 0x2#4 ∧ c.cmd.extractLsb' 4 24 ≠ 0#24) ∨
      ((c.cmd.extractLsb' 28 4 = 0x3#4 ∨ c.cmd.extractLsb' 28 4 = 0x4#4) ∧ c.cmd.extractLsb' 1 27 ≠ 0#27) ∨
      (c.cmd.extractLsb' 28 4 = 0x5#4 ∧ c.cmd.extractLsb' 8 20 ≠ 0#20)) ∧
    ∀ why, decode c = .illegal why → ∀ s : State, FailsWith .illegalCommand s (runWord c s)

/-- 30_encoding.md R90: the assembler refuses an operand exactly when it does not fit its field, and otherwise gives the word
and the DATA of the table. -/
def Obligations.AssemblerLines : Prop :=
  (∀ v, assemble (.init v) = if 2 ^ 16 ≤ v then none else some ⟨0x10000000#32 ||| BitVec.ofNat 32 v, 0#64⟩) ∧
  (∀ n d, assemble (.absorb n d) =
    if 16 ≤ n ∨ 2 ^ 64 ≤ d then none else some ⟨0x20000000#32 ||| BitVec.ofNat 32 n, BitVec.ofNat 64 d⟩) ∧
  (∀ k, assemble (.finalize k) = if 1 < k then none else some ⟨0x30000000#32 ||| BitVec.ofNat 32 k, 0#64⟩) ∧
  (∀ k, assemble (.clear k) = if 1 < k then none else some ⟨0x40000000#32 ||| BitVec.ofNat 32 k, 0#64⟩) ∧
  (∀ r, assemble (.read r) = if 256 ≤ r then none else some ⟨0x50000000#32 ||| BitVec.ofNat 32 r, 0#64⟩)

/-! ### Steps, reset and the command port -/

/-- A step runs the decoded instruction: when the host's next move is a command whose word decodes to `i`, and the core has
been reset since power-on, the step takes that move from the port, is exec of `i`, and delivers its response. -/
def Obligations.StepRunsDecodedInstruction : Prop :=
  ∀ (s : State) (c : Command) (i : Instr) (rest : List HostMove),
    s.launched = true → s.port = .command c :: rest → decode c = .instr i →
      step s = match exec i { s with port := rest } with
        | .next t    => .next { t with responses := t.responses ++ [t.resp] }
        | .fault r   => .fault r
        | .refused r => .refused r

/-- A step whose command is ILLEGAL fails it with ILLEGAL_COMMAND and delivers the response (30_encoding.md R87,
60_exceptions.md R202). That the failure also sets the ghost flag `everFailed`, which FailedState says, is the model's choice
(log 4, DESIGN CHOICE; 93_implementation_defined.md I14), and so is the list of delivered responses (log 2). -/
def Obligations.StepFailsIllegalWord : Prop :=
  ∀ (s : State) (c : Command) (why : IllegalWord) (rest : List HostMove),
    s.launched = true → s.port = .command c :: rest → decode c = .illegal why →
      ∃ t, step s = .next { t with responses := t.responses ++ [t.resp] } ∧
        FailedState .illegalCommand { s with port := rest } t

/-- An idle core keeps its state: a step with no host move left changes nothing (log 8; 60_exceptions.md R216,
70_reset_and_hazards.md R240). -/
def Obligations.IdleKeepsState : Prop :=
  ∀ s : State, s.port = [] → step s = .next s

/-- 70_reset_and_hazards.md R230, R231: a hardware reset, whether or not it falls into a command, and in every state (the
state before the first reset among them), leaves the reset state, with no response delivered. Two clauses are the model's
choice: that the reset keeps the list of responses already delivered (log 2, DESIGN CHOICE), and that it keeps the ghost flag
`everFailed` (log 4, DESIGN CHOICE; 93_implementation_defined.md I14). -/
def Obligations.HardwareResetState : Prop :=
  ∀ (s : State) (m : HostMove) (rest : List HostMove), s.port = m :: rest → (m = .reset ∨ ∃ c, m = .resetDuring c) →
    ∃ t, step s = .next t ∧ CleanLaunch t ∧ t.resp = 0#64 ∧ t.port = rest ∧ t.responses = s.responses ∧
      t.everFailed = s.everFailed

/-- 10_state.md R44: the value of every architectural field after hardware reset. -/
def Obligations.ResetValues : Prop :=
  (∀ i (h : i < 25), State.reset.lanes[i] = 0#64) ∧ State.reset.cfg = false ∧ State.reset.var = .unset ∧
  (∀ j (h : j < 144), State.reset.pbuf[j] = 0#8) ∧ State.reset.plen = 0#8 ∧ State.reset.bproc = 0#64 ∧
  (∀ k (h : k < 64), State.reset.dig[k] = 0#8) ∧ State.reset.dv = false ∧ State.reset.err = .noError

/-- Before the first hardware reset the core takes no command (93_implementation_defined.md I8; the model's field `launched`,
log 3). -/
def Obligations.NoCommandBeforeReset : Prop :=
  ∀ (s : State) (c : Command) (rest : List HostMove), s.launched = false → s.port = .command c :: rest →
    step s = .refused .commandBeforeReset

/-- Every step completes, once the core has been reset: each of the 2^32 words, with any DATA and in any state, has exactly
one response, and the core takes the next move after it (70_reset_and_hazards.md R238, 93_implementation_defined.md). -/
def Obligations.EveryCommandCompletes : Prop :=
  ∀ (s : State) (c : Command) (rest : List HostMove), s.launched = true → s.port = .command c :: rest →
    ∃ t, step s = .next t ∧ t.launched = true ∧ t.port = rest ∧ t.responses = s.responses ++ [t.resp]

/-- DATA is ignored by every command except ABSORB (20_memory.md R68, 93_implementation_defined.md I7). -/
def Obligations.DataIgnoredExceptByAbsorb : Prop :=
  ∀ (s : State) (cmd : CmdWord) (d e : Word) (rest : List HostMove), cmd.extractLsb' 28 4 ≠ 0x2#4 →
    step { s with port := .command ⟨cmd, d⟩ :: rest } = step { s with port := .command ⟨cmd, e⟩ :: rest }

/-- 20_memory.md R69: the effect of a sequence of commands is the composition of their transitions, in the order in which they
are accepted. Steps over a port that holds the commands' words run exactly the instructions in order and deliver their
responses in order. -/
def Obligations.PortRunsInOrder : Prop :=
  ∀ (is : List Instr) (s : State) (rest : List HostMove), (∀ i ∈ is, i.wellFormed = true) → s.launched = true →
    ∃ t, execAll is s = .next t ∧
      Host.Core.run core is.length { s with port := movesOf is ++ rest } =
        .next { t with port := rest, responses := s.responses ++ responsesOf is s }

/-! ### Invariants -/

/-- The invariant (the model's own, from the rules named at `Consistent`; its ghost flag is log 4) holds at reset, and reset is a clean launch
(70_reset_and_hazards.md R241). -/
def Obligations.InvariantAtReset : Prop := Inv State.reset ∧ CleanLaunch State.reset

/-- Every step keeps the invariant (the model's own, from the rules named at `Consistent`; `launched` is log 3, the ghost flag log
4), from every state that has it, whatever the host's next move is. -/
def Obligations.StepKeepsInvariant : Prop :=
  ∀ s t : State, Inv s → step s = .next t → Inv t

/-! ### INIT -/

/-- 43_control.md R180 and R181 (the STATUS table, which the spec marks derived): a legal INIT, in any state, creates an empty
instance and returns the STATUS value of the table; nothing else changes. -/
def Obligations.InitCreatesInstance : Prop :=
  ∀ s : State,
    let fresh : Variant → Word → State := fun v r =>
      { s with lanes := Vector.replicate 25 0#64, cfg := true, var := v, pbuf := Vector.replicate 144 0#8, plen := 0#8,
               bproc := 0#64, dig := Vector.replicate 64 0#8, dv := false, err := .noError, resp := r }
    exec (.init 224) s = .next (fresh .v224 0x00900001#64) ∧ exec (.init 256) s = .next (fresh .v256 0x00880005#64) ∧
    exec (.init 384) s = .next (fresh .v384 0x00680009#64) ∧ exec (.init 512) s = .next (fresh .v512 0x0048000D#64)

/-- The host tells the success of an INIT from its response alone: ERR, RESP[7:4], is 0 exactly when the number is legal, in
every state (43_control.md R180, R186). -/
def Obligations.InitSuccessInResponse : Prop :=
  ∀ (s t : State) (v : Nat), exec (.init v) s = .next t →
    (createSucceeded t.resp = true ↔ v = 224 ∨ v = 256 ∨ v = 384 ∨ v = 512) ∧ (createSucceeded t.resp = true ↔ t.err = .noError)

/-! ### ABSORB -/

/-- 41_absorb.md R142: AbsorbByte, on an instance with PLEN < BS. The byte goes to PBUF[PLEN]; a full buffer is absorbed as a
block and counted, and PLEN is 0 again. Nothing else changes. -/
def Obligations.AbsorbByteStep : Prop :=
  ∀ (s : State) (b : Byte) (h : s.plen.toNat < 144), s.var ≠ .unset → s.plen.toNat < blockSize s.var →
    let filled := s.pbuf.set s.plen.toNat b
    (s.plen.toNat + 1 < blockSize s.var → absorbByte s b = { s with pbuf := filled, plen := s.plen + 1#8 }) ∧
    (s.plen.toNat + 1 = blockSize s.var → absorbByte s b =
      { absorbBlock (fun j => filled[j]?.getD 0#8) s with
        pbuf := filled, plen := 0#8, bproc := s.bproc + BitVec.ofNat 64 (blockSize s.var) })

/-- 41_absorb.md R140, R141, 20_memory.md R62: AbsorbBlock writes the lanes only, with KeccakF of the state whose lane i is
XORed with LE64(block[8i..8i+7]) for i < RL and passes unchanged for the capacity lanes RL..24. BS is 144, 136, 104, 72 and RL
is 18, 17, 13, 9. -/
def Obligations.AbsorbBlockMasksRate : Prop :=
  (blockSize .v224 = 144 ∧ blockSize .v256 = 136 ∧ blockSize .v384 = 104 ∧ blockSize .v512 = 72) ∧
  (rateLanes .v224 = 18 ∧ rateLanes .v256 = 17 ∧ rateLanes .v384 = 13 ∧ rateLanes .v512 = 9) ∧
  ∀ (s : State) (block : Nat → Byte), ∃ a : LaneFile,
    absorbBlock block s = { s with lanes := keccakF a } ∧
    ∀ i (h : i < 25), (i < rateLanes s.var →
        ∀ k, k < 8 → (a[i]).extractLsb' (8 * k) 8 = (s.lanes[i]).extractLsb' (8 * k) 8 ^^^ block (8 * i + k)) ∧
      (rateLanes s.var ≤ i → a[i] = s.lanes[i])

/-- 41_absorb.md R144: an ABSORB that reaches no block boundary, on an instance with PLEN < BS. It completes; its N bytes
follow the pending ones; lanes, BPROC and every other field but PLEN and RESP are unchanged, and so is every other byte of
PBUF. -/
def Obligations.AbsorbWithinBlock : Prop :=
  ∀ (s : State) (n : Nat) (d : Word), n ≤ 8 → s.cfg = true → s.var ≠ .unset → s.plen.toNat + n < blockSize s.var →
    ∃ t, exec (.absorb n d) s = .next t ∧
      t = { s with pbuf := t.pbuf, plen := s.plen + BitVec.ofNat 8 n, resp := statusResponse t } ∧
      ∀ j, j < 144 → pbufByte t j =
        if s.plen.toNat ≤ j ∧ j < s.plen.toNat + n then d.extractLsb' (8 * (j - s.plen.toNat)) 8 else pbufByte s j

/-- 41_absorb.md R142, R144: an ABSORB that reaches the block boundary, on an instance with PLEN < BS. It completes; the block
of the pending bytes and the first BS - PLEN bytes of DATA is absorbed and counted, and the bytes after it are the pending
bytes of the next block. Nothing else changes but RESP. -/
def Obligations.AbsorbAcrossBoundary : Prop :=
  ∀ (s : State) (n : Nat) (d : Word), n ≤ 8 → s.cfg = true → s.var ≠ .unset → s.plen.toNat < blockSize s.var →
    blockSize s.var ≤ s.plen.toNat + n →
      let block : Nat → Byte := fun j =>
        if s.plen.toNat ≤ j ∧ j < blockSize s.var then d.extractLsb' (8 * (j - s.plen.toNat)) 8 else pbufByte s j
      let rest := s.plen.toNat + n - blockSize s.var
      ∃ t, exec (.absorb n d) s = .next t ∧
        t = { absorbBlock block s with
              pbuf := t.pbuf, plen := BitVec.ofNat 8 rest, bproc := s.bproc + BitVec.ofNat 64 (blockSize s.var),
              resp := statusResponse t } ∧
        ∀ j, j < 144 → pbufByte t j =
          if j < rest then d.extractLsb' (8 * (blockSize s.var - s.plen.toNat + j)) 8 else block j

/-- 41_absorb.md section 5.5 (R146, which the spec marks derived) and 10_state.md R28: the buffering bound. After every
command on a consistent state, PLEN < BS when CFG = 1 and PLEN = 0 when CFG = 0; and absorbing L bytes on a fresh instance
leaves PLEN = L mod BS and BPROC = BS * floor(L / BS) mod 2^64 (on any instance with PLEN < BS, the same counted on from its
PLEN and BPROC). -/
def Obligations.BufferingBound : Prop :=
  (∀ (s t : State) (i : Instr), Consistent s → exec i s = .next t →
    (t.cfg = true → t.plen.toNat < 200 - 2 * (variantBits t.var / 8)) ∧ (t.cfg = false → t.plen = 0#8)) ∧
  ∀ (s : State) (bs : List Byte), s.var ≠ .unset → s.plen.toNat < blockSize s.var →
    (absorbBytes bs s).plen.toNat = (s.plen.toNat + bs.length) % blockSize s.var ∧
    (absorbBytes bs s).bproc =
      s.bproc + BitVec.ofNat 64 (blockSize s.var * ((s.plen.toNat + bs.length) / blockSize s.var))

/-- 20_memory.md section 2.2 (R66, which the spec marks derived): an ABSORB of N bytes equals N successive one-byte ABSORBs of
those bytes in order, in any state with an instance. -/
def Obligations.AbsorbEqualsSingleBytes : Prop :=
  ∀ (s : State) (n : Nat) (d : Word), 0 < n → n ≤ 8 → s.cfg = true →
    ∃ t, exec (.absorb n d) s = .next t ∧
      execAll ((List.range n).map fun i => .absorb 1 ((d.extractLsb' (8 * i) 8).setWidth 64)) s = .next t

/-- 41_absorb.md section 5.5 (R145, which the spec marks derived): the state after absorbing a message depends only on its
bytes. Two nonempty sequences of ABSORBs of the same bytes, split in any two ways, complete in the same state with the same
last response. Left out: the empty sequence, which has no response, and an ABSORB with N > 8, which fails
(`Obligations.OperandErrorsRaised`). -/
def Obligations.StreamingEquivalence : Prop :=
  ∀ (s : State) (p q : List (Nat × Word)), s.cfg = true → (∀ c ∈ p, c.1 ≤ 8) → (∀ c ∈ q, c.1 ≤ 8) → p ≠ [] → q ≠ [] →
    chunkBytes p = chunkBytes q →
      ∃ t, execAll (absorbCommands p) s = .next t ∧ execAll (absorbCommands q) s = .next t

/-- 30_encoding.md R86, 92_eei_decisions.md D22: DATA bits at 8N and above never matter. -/
def Obligations.AbsorbIgnoresHighData : Prop :=
  ∀ (s : State) (n : Nat) (d e : Word), (∀ k, k < 8 * n → d.getLsbD k = e.getLsbD k) →
    exec (.absorb n d) s = exec (.absorb n e) s

/-- 41_absorb.md section 5.3 (R143, which the spec marks derived): absorbing byte by byte gives the same lanes, PLEN, pending
bytes and BPROC as the source's three phases, and neither changes any other field. -/
def Obligations.ThreePhaseUpdateAgrees : Prop :=
  ∀ (s : State) (bs : List Byte), s.var ≠ .unset → s.plen.toNat < blockSize s.var →
    SameUpToStaleBytes (absorbBytes bs s) (threePhaseUpdate bs s)

/-- 60_exceptions.md R204: ABSORB with N <= 8, FINALIZE with either D, and CLEAR with D = 0 fail with NOT_CONFIGURED when CFG
= 0; CFG = 0 holds after reset and after a FINALIZE or a CLEAR with D = 1. That a failure also sets the ghost flag
`everFailed`, which FailsWith says, is the model's choice (log 4, DESIGN CHOICE; 93_implementation_defined.md I14). -/
def Obligations.NotConfiguredRaised : Prop :=
  (∀ (s : State), s.cfg = false →
    (∀ n d, n ≤ 8 → FailsWith .notConfigured s (exec (.absorb n d) s)) ∧
    (∀ b, FailsWith .notConfigured s (exec (.finalize b) s)) ∧
    FailsWith .notConfigured s (exec (.clear false) s)) ∧
  State.reset.cfg = false ∧
  ∀ s t : State, (exec (.finalize true) s = .next t ∨ exec (.clear true) s = .next t) → t.cfg = false

/-! ### The permutation -/

/-- 40_permutation.md R113: lane (x,y) is XORed with C[x-1] ^ ROTL64(C[x+1], 1), indices mod 5. -/
def Obligations.ThetaLanes : Prop :=
  ∀ (a : LaneFile) (x y : Fin 5),
    let column : Fin 5 → Word := fun c => a[c.val] ^^^ a[c.val + 5] ^^^ a[c.val + 10] ^^^ a[c.val + 15] ^^^ a[c.val + 20]
    (theta a)[x.val + 5 * y.val] = a[x.val + 5 * y.val] ^^^ (column (x - 1) ^^^ (column (x + 1)).rotateLeft 1)

/-- 40_permutation.md R114: Rho rotates each lane left by its offset; lane 0 is unchanged, and every other offset lies in
1..62. -/
def Obligations.RhoRotatesLanes : Prop :=
  ∀ a : LaneFile,
    (∀ x y : Fin 5, (rho a)[x.val + 5 * y.val] = (a[x.val + 5 * y.val]).rotateLeft (rotationOffset x.val y.val)) ∧
    (rho a)[0] = a[0] ∧
    ∀ x y : Fin 5, (x.val, y.val) ≠ (0, 0) → 1 ≤ rotationOffset x.val y.val ∧ rotationOffset x.val y.val ≤ 62

/-- 40_permutation.md section 4.3 (R115, which the spec marks as general knowledge G1): the offsets are those of the standard
construction: r[0,0] = 0, and r = ((t+1)(t+2)/2) mod 64 at step t of the walk from (1,0). -/
def Obligations.RotationOffsetsStandard : Prop :=
  rotationOffset 0 0 = 0 ∧
  ∀ t, t < 24 → rotationOffset (offsetWalk t).1 (offsetWalk t).2 = (t + 1) * (t + 2) / 2 % 64

/-- 40_permutation.md R116: Pi moves the lane at (x,y) to (y, (2x+3y) mod 5), and is a bijection on positions: a lane file is
determined by its image, and only lane 0 stays in place. The second clause is the equivalent form A'[x,y] = A[(x+3y) mod 5, x],
which the spec marks as derived from the first (by inverting the map). -/
def Obligations.PiMovesLanes : Prop :=
  (∀ (a : LaneFile) (x y : Fin 5), (piStep a)[y.val + 5 * (2 * x + 3 * y).val] = a[x.val + 5 * y.val]) ∧
  (∀ (a : LaneFile) (x y : Fin 5), (piStep a)[x.val + 5 * y.val] = a[(x + 3 * y).val + 5 * x.val]) ∧
  (∀ x y : Fin 5, (y, 2 * x + 3 * y) = (x, y) → x = 0 ∧ y = 0) ∧
  ∀ a b : LaneFile, piStep a = piStep b → a = b

/-- 40_permutation.md R117: Chi on each row, all five inputs from before the step. -/
def Obligations.ChiRows : Prop :=
  ∀ (a : LaneFile) (x y : Fin 5),
    (chi a)[x.val + 5 * y.val] =
      a[x.val + 5 * y.val] ^^^ (~~~a[(x + 1).val + 5 * y.val] &&& a[(x + 2).val + 5 * y.val])

/-- 40_permutation.md R118: Iota XORs lane 0 with RC[i] and writes no other lane. The last clause, that on the all-zero state
round 0's Iota sets lane 0 to 1, is the worked example which the spec marks as derived from R118; it uses the value of RC[0],
which the spec marks as general knowledge (R119, G2). -/
def Obligations.IotaWritesLaneZero : Prop :=
  ∀ (a : LaneFile) (i : Fin 24), (iota a i)[0] = a[0] ^^^ roundConstants[i] ∧
    (∀ j (h : j < 25), j ≠ 0 → (iota a i)[j] = a[j]) ∧
    iota (Vector.replicate 25 0#64) 0 = (Vector.replicate 25 0#64).set 0 0x0000000000000001#64

/-- 40_permutation.md section 4.6 (R119, which the spec marks as general knowledge G2): RC[i] has bit 2^j - 1 equal to rc(j +
7i) for j = 0..6, and every other bit 0. -/
def Obligations.RoundConstantsFromLfsr : Prop :=
  ∀ (i : Fin 24) (k : Nat), k < 64 →
    (roundConstants[i]).getLsbD k =
      (List.range 7).any fun j => decide (k = 2 ^ j - 1) && lfsrBit (j + 7 * i.val)

/-- 40_permutation.md section 4.7 (R120, whose tables the spec marks as general knowledge G3 and whose equality it marks
derived): the traversal form, which carries a lane through the fixed 24-lane cycle, is Pi after Rho on every lane file. -/
def Obligations.TraversalIsRhoThenPi : Prop :=
  ∀ a : LaneFile, rhoPiInPlace a = piStep (rho a)

/-- 40_permutation.md section 4.9 (R123, which the spec marks derived): from the all-zero state, round 0 sets lane 0 to 1 and
leaves every other lane 0, and KeccakF has lane 0 = 0xF1258F7940E1DDE7. -/
def Obligations.PermutationOfZero : Prop :=
  keccakRound (Vector.replicate 25 0#64) 0 = (Vector.replicate 25 0#64).set 0 1#64 ∧
  (keccakF (Vector.replicate 25 0#64))[0] = 0xF1258F7940E1DDE7#64

/-! ### FINALIZE -/

/-- 42_finalize.md R160, R161: the bytes of the padded block on an instance with PLEN < BS: the pending bytes, 0x01, zeros,
and 0x80 ORed into the last byte, which is 0x81 when PLEN = BS - 1. -/
def Obligations.PadBlockBytes : Prop :=
  ∀ s : State, s.var ≠ .unset → s.plen.toNat < blockSize s.var →
    (∀ j, j < s.plen.toNat → padBlock s j = pbufByte s j) ∧
    (s.plen.toNat + 1 < blockSize s.var →
      padBlock s s.plen.toNat = 0x01#8 ∧ padBlock s (blockSize s.var - 1) = 0x80#8 ∧
      ∀ j, s.plen.toNat < j → j < blockSize s.var - 1 → padBlock s j = 0x00#8) ∧
    (s.plen.toNat + 1 = blockSize s.var → padBlock s (blockSize s.var - 1) = 0x81#8)

/-- 42_finalize.md R163: FINALIZE on an instance completes: the digest of the state after absorbing the padded block is
latched, DV is 1, the computation is cleared, and D = 1 releases the instance; RESP is STATUS, and nothing else changes. -/
def Obligations.FinalizeLatchesDigest : Prop :=
  ∀ (s : State) (b : Bool), s.cfg = true →
    ∃ t, exec (.finalize b) s = .next t ∧
      t = { s with
            lanes := Vector.replicate 25 0#64, pbuf := Vector.replicate 144 0#8, plen := 0#8, bproc := 0#64,
            dig := digestOf s.var (absorbBlock (padBlock s) s).lanes, dv := true,
            cfg := !b, var := if b = true then .unset else s.var, resp := statusResponse t }

/-- 42_finalize.md R162: the bytes of DIG, in the source's words and remainder: the first floor(VAR/64) lanes as 8 bytes each,
low byte first, then the low-order remainder bytes of the next lane, then zeros. -/
def Obligations.DigestWordMethod : Prop :=
  ∀ (s : State) (v : Variant) (a : LaneFile) (w : Nat) (h : w < 8), v ≠ .unset → s.dig = digestOf v a →
    let wordCount := variantBits v / 64
    let remainderBits := variantBits v - 64 * wordCount
    digestWord s w =
      if w < wordCount then a[w]
      else if w = wordCount then ((a[w]).setWidth remainderBits).setWidth 64
      else 0#64

/-- 42_finalize.md section 6.4 (R164, which the spec marks derived): after a successful FINALIZE, bytes DB..63 of DIG are 0,
and DB is 28, 32, 48 or 64. -/
def Obligations.DigestLengthFixed : Prop :=
  (digestLength .v224 = 28 ∧ digestLength .v256 = 32 ∧ digestLength .v384 = 48 ∧ digestLength .v512 = 64) ∧
  ∀ (s t : State) (b : Bool), s.cfg = true → exec (.finalize b) s = .next t →
    t.dv = true ∧ (∀ k, digestLength s.var ≤ k → digByte t k = 0x00#8) ∧
    ∀ k (h : k / 8 < 25), k < digestLength s.var → digByte t k =
      ((absorbBlock (padBlock s) s).lanes[k / 8]).extractLsb' (8 * (k % 8)) 8

/-- 42_finalize.md section 6.4 (R165, which the spec marks derived): after FINALIZE keep, ABSORBs and a FINALIZE give the same
DIG as after a fresh INIT of the same variant in any other state. -/
def Obligations.ResetCleanliness : Prop :=
  ∀ (s u : State) (cs : List (Nat × Word)) (b : Bool), s.cfg = true → s.var ≠ .unset → (∀ c ∈ cs, c.1 ≤ 8) →
    ∃ t t', execAll (.finalize false :: (absorbCommands cs ++ [.finalize b])) s = .next t ∧
      execAll (.init (variantBits s.var) :: (absorbCommands cs ++ [.finalize b])) u = .next t' ∧
      t.dig = t'.dig ∧ t.dv = true ∧ t'.dv = true

/-- The core computes the Keccak hash (00_scope.md R2, R3; 42_finalize.md R163, and R166, which the spec marks derived): INIT,
any ABSORBs, FINALIZE, from any state, complete with DIG the sponge of the whole padded message over the zero state. So DIG
depends on the variant and the message bytes alone. -/
def Obligations.ComputesKeccakHash : Prop :=
  ∀ (s : State) (v : Variant) (cs : List (Nat × Word)) (b : Bool), v ≠ .unset → (∀ c ∈ cs, c.1 ≤ 8) →
    ∃ t, execAll (.init (variantBits v) :: (absorbCommands cs ++ [.finalize b])) s = .next t ∧
      t.dig = keccakHash v (chunkBytes cs) ∧ t.dv = true ∧ t.err = .noError

/-! ### CLEAR -/

/-- 43_control.md R183: CLEAR completes with D = 1 in any state and with D = 0 on an instance: the computation and the digest
register are cleared, D = 1 releases; ERR is kept, RESP is STATUS, and nothing else changes. -/
def Obligations.ClearAbandonsMessage : Prop :=
  ∀ (s : State) (b : Bool), (b = true ∨ s.cfg = true) →
    ∃ t, exec (.clear b) s = .next t ∧
      t = { s with
            lanes := Vector.replicate 25 0#64, pbuf := Vector.replicate 144 0#8, plen := 0#8, bproc := 0#64,
            dig := Vector.replicate 64 0#8, dv := false,
            cfg := !b, var := if b = true then .unset else s.var, resp := statusResponse t }

/-! ### READ -/

/-- 43_control.md R185, 10_state.md R34 to R38: READ of a legal index completes in every state, returns the register, and
changes nothing but RESP. DIGESTw has digest byte 8w+i in its bits 8i+7:8i. -/
def Obligations.ReadReturnsRegister : Prop :=
  ∀ s : State,
    exec (.read 0x00) s = .next { s with resp := (statusWord s).setWidth 64 } ∧
    exec (.read 0x01) s = .next { s with resp := BitVec.ofNat 64 (variantBits s.var) } ∧
    exec (.read 0x02) s = .next { s with resp := s.bproc } ∧
    ∀ w (h : w < 8), ∃ r, exec (.read (0x08 + w)) s = .next { s with resp := r } ∧
      ∀ i (h' : i < 8), r.extractLsb' (8 * i) 8 = s.dig[8 * w + i]

/-- 10_state.md R35: the fields of STATUS, bit by bit, as the 64-bit response that READ STATUS returns. -/
def Obligations.StatusFields : Prop :=
  ∀ s : State, ∃ r, exec (.read 0x00) s = .next { s with resp := r } ∧
    r.getLsbD 0 = s.cfg ∧ r.getLsbD 1 = s.dv ∧
    r.extractLsb' 2 2 = (if s.cfg = false then 0#2 else match s.var with
      | .unset => 0#2 | .v224 => 0#2 | .v256 => 1#2 | .v384 => 2#2 | .v512 => 3#2) ∧
    r.extractLsb' 4 4 = errorNumber s.err ∧ r.extractLsb' 8 8 = s.plen ∧
    r.extractLsb' 16 8 = (if s.cfg = true then BitVec.ofNat 8 (blockSize s.var) else 0#8) ∧
    r.extractLsb' 24 40 = 0#40

/-- READDIGEST: with a digest of variant `v` in DIG, the first DB bytes of the responses' LEBYTES are the digest bytes
(30_encoding.md R92, 42_finalize.md R164). -/
def Obligations.ReadDigestGivesDigest : Prop :=
  ∀ (s : State) (v : Variant), v ≠ .unset →
    digestFromResponses v (responsesOf (readDigestCommands v) s) = (List.range (digestLength v)).map (digByte s)

/-! ### Errors, responses and writers: rules over all commands -/

/-- 60_exceptions.md R203, R205, R206: the operand checks. INIT with a number that is no variant fails with INVALID_VARIANT
and leaves the live instance unchanged; ABSORB with N in 9..15 (or any N above 8) fails with BAD_COUNT; READ of a reserved
index (or of any number that is no index) fails with BAD_REGISTER. Each at every CFG value. Not R203's, R205's or R206's: the
codes for operands that no encoding holds (N above 15, REG above 0xFF, VARIANT above 0xFFFF) are the model's inference (log 12,
DEDUCED), and that a failure also sets the ghost flag `everFailed` is the model's choice (log 4, DESIGN CHOICE;
93_implementation_defined.md I14). -/
def Obligations.OperandErrorsRaised : Prop :=
  ∀ s : State,
    (∀ v, v ≠ 224 → v ≠ 256 → v ≠ 384 → v ≠ 512 → FailsWith .invalidVariant s (exec (.init v) s)) ∧
    (∀ n d, 9 ≤ n → FailsWith .badCount s (exec (.absorb n d) s)) ∧
    (∀ r, (0x03 ≤ r ∧ r ≤ 0x07 ∨ 0x10 ≤ r) → FailsWith .badRegister s (exec (.read r) s))

/-- 60_exceptions.md R207: an ILLEGAL word fails with ILLEGAL_COMMAND; every other command completes, and it fails exactly
when `failureOf` names a code, with that code alone and with no other effect, and when it does not fail it leaves ERR as it
was or, for INIT, 0. Not R207's: that a failure sets the ghost flag `everFailed` and a success keeps it is the model's choice
(log 4, DESIGN CHOICE; 93_implementation_defined.md I14), and the codes for operands that no encoding holds are the model's
inference (log 12, DEDUCED). -/
def Obligations.FailurePriority : Prop :=
  ∀ (i : Instr) (s : State),
    (∀ code, failureOf i s = some code → FailsWith code s (exec i s)) ∧
    (failureOf i s = none → ∃ t, exec i s = .next t ∧ t.everFailed = s.everFailed ∧
      ((∃ v, i = .init v) → t.err = .noError) ∧ ((∀ v, i ≠ .init v) → t.err = s.err)) ∧
    ∀ (c : Command) (why : IllegalWord), decode c = .illegal why → FailsWith .illegalCommand s (runWord c s)

/-- 30_encoding.md R81: a successful READ responds with the register it names; every other command, and every failing command
(a failing READ and an ILLEGAL word too), responds with STATUS after the effect. -/
def Obligations.ResponseRule : Prop :=
  (∀ (r : Nat) (s t : State), exec (.read r) s = .next t → failureOf (.read r) s = none →
    t.resp = if r = 0x00 then statusResponse s else if r = 0x01 then BitVec.ofNat 64 (variantBits s.var)
      else if r = 0x02 then s.bproc else digestWord s (r - 0x08)) ∧
  (∀ (i : Instr) (s t : State), exec i s = .next t → (∀ r, i = .read r → failureOf i s ≠ none) → t.resp = statusResponse t) ∧
  ∀ (c : Command) (why : IllegalWord) (s t : State), decode c = .illegal why → runWord c s = .next t → t.resp = statusResponse t

/-- 10_state.md R31, 60_exceptions.md R200: a failing command sets ERR to its code only if ERR = 0; a successful INIT sets ERR
to 0, and so does hardware reset; no other event (a successful command of another kind, an idle step) changes ERR. -/
def Obligations.ErrWriters : Prop :=
  (∀ (i : Instr) (s t : State), exec i s = .next t →
    (∀ code, failureOf i s = some code → t.err = if s.err = .noError then code else s.err) ∧
    (failureOf i s = none → ((∃ v, i = .init v) → t.err = .noError) ∧ ((∀ v, i ≠ .init v) → t.err = s.err))) ∧
  (∀ (c : Command) (why : IllegalWord) (s t : State), decode c = .illegal why → runWord c s = .next t →
    t.err = if s.err = .noError then .illegalCommand else s.err) ∧
  (∀ (s t : State) (rest : List HostMove), s.port = .reset :: rest → step s = .next t → t.err = .noError) ∧
  ∀ s t : State, s.port = [] → step s = .next t → t.err = s.err

/-- 10_state.md R22, R23: which commands write the lanes. Only a command that does not fail does, and it is a legal INIT, a
FINALIZE or a CLEAR, which leave them cleared (FINALIZE absorbs the padded block first), or an ABSORB that reaches the block
boundary, which absorbs the block of the pending bytes and the first BS - PLEN bytes of DATA. So every failing command, every
READ, every ABSORB below the boundary and every ILLEGAL word leaves the lanes. On a consistent state. -/
def Obligations.LanesWriters : Prop :=
  (∀ (c : Command) (why : IllegalWord) (s t : State), decode c = .illegal why → runWord c s = .next t → t.lanes = s.lanes) ∧
  ∀ (i : Instr) (s t : State), Consistent s → exec i s = .next t → t.lanes ≠ s.lanes →
    failureOf i s = none ∧
    ((((∃ v, i = .init v) ∨ (∃ b, i = .finalize b) ∨ ∃ b, i = .clear b) ∧ t.lanes = Vector.replicate 25 0#64) ∨
      ∃ n d, i = .absorb n d ∧ blockSize s.var ≤ s.plen.toNat + n ∧
        t.lanes = (absorbBlock (fun j =>
          if s.plen.toNat ≤ j ∧ j < blockSize s.var then d.extractLsb' (8 * (j - s.plen.toNat)) 8 else pbufByte s j) s).lanes)

/-- 10_state.md R25, R26, 43_control.md R182: CFG and VAR are changed only by a legal INIT, which sets both, and by FINALIZE
or CLEAR with D = 1, which release the instance. -/
def Obligations.ConfigurationWriters : Prop :=
  ∀ (i : Instr) (s t : State), exec i s = .next t → (t.cfg ≠ s.cfg ∨ t.var ≠ s.var) →
    (∃ v, i = .init v ∧ t.cfg = true ∧ variantBits t.var = v) ∨
    ((i = .finalize true ∨ i = .clear true) ∧ t.cfg = false ∧ t.var = .unset)

/-- 10_state.md R30, 70_reset_and_hazards.md R234: DIG and DV are changed only by a successful FINALIZE, which sets DV, and by
INIT and CLEAR, which clear both. ABSORB, READ and every failing command leave them. -/
def Obligations.DigestWriters : Prop :=
  ∀ (i : Instr) (s t : State), exec i s = .next t → (t.dig ≠ s.dig ∨ t.dv ≠ s.dv) →
    ((∃ b, i = .finalize b) ∧ failureOf i s = none ∧ t.dv = true) ∨
    (((∃ v, i = .init v) ∨ ∃ b, i = .clear b) ∧ failureOf i s = none ∧ t.dv = false ∧
      t.dig = Vector.replicate 64 0#8)

/-- 10_state.md R32: the host observes the lanes and PBUF only through the digest. Two states that differ only in them answer
every command but FINALIZE alike, and still differ only in them. -/
def Obligations.SecretSeenOnlyByDigest : Prop :=
  ∀ (i : Instr) (s u t : State), SameUpToSecret s u → (∀ b, i ≠ .finalize b) → exec i s = .next t →
    ∃ t', exec i u = .next t' ∧ SameUpToSecret t t'

/-- 10_state.md R27: PBUF bytes at index PLEN or above are unobservable. Two states that differ only in them answer every
command alike, FINALIZE too, and still differ only in such bytes. -/
def Obligations.StaleBytesUnobservable : Prop :=
  ∀ (i : Instr) (s u t : State), SameUpToStaleBytes s u → exec i s = .next t →
    ∃ t', exec i u = .next t' ∧ SameUpToStaleBytes t t'

/-! ### The host's side -/

/-- 30_encoding.md R91: UPDATE absorbs exactly its bytes, in order, on any instance; with no bytes it issues no command. -/
def Obligations.UpdateAbsorbsBytes : Prop :=
  ∀ (s : State) (bs : List Byte), s.cfg = true →
    (∀ i ∈ updateCommands bs, i.wellFormed = true) ∧ (bs = [] → updateCommands bs = []) ∧
    ∃ t, execAll (updateCommands bs) s = .next t ∧
      t = { absorbBytes bs s with resp := if bs = [] then s.resp else statusResponse t }
end

