-- ==== Sys2Proof/Config.lean ====
section
/-!
DEFINITION. What the spec leaves to an implementation. Every functional parameter of 00_scope.md R9 has one fixed value and
stands where it is used (the array sizes in Word, the tables and the round count in Machine/Permutation, blockSize in
Machine/Operands). The timing parameters are the only open ones that R9 names; they are given here without a value, and
NOTHING of the model reads them: no functional rule depends on them (70_reset_and_hazards.md R236, R237; log 7).
-/

namespace Sys2Proof

/-- `CMD_LATENCY(cmd)`: the cycles from acceptance to resp_valid, open (70_reset_and_hazards.md R237). -/
opaque Config.cmdLatency : CmdWord → Word → Nat

/-- `PERM_LATENCY`: the cycles one KeccakF takes, open (70_reset_and_hazards.md R237). -/
opaque Config.permLatency : Nat

end Sys2Proof
end

