-- ==== Sys2Proof/Laws/Operands.lean ====
section
/-!
SUPPORT. One lemma per helper of Machine/Operands: lanes of a tabulated lane file, bytes of LE64, rotation as the library's
rotateLeft, and the sizes derived from a variant.
-/

namespace Sys2Proof.Machine

/-- Tabulating is the library's tabulation of a vector of 25. -/
theorem ofLanes_eq_ofFn (f : Nat → Word) : ofLanes f = Vector.ofFn fun i : Fin 25 => f i.val := by
  unfold ofLanes
  simp [Vector.ofFn, Array.ofFn_succ]

@[simp] theorem getElem_ofLanes (f : Nat → Word) (i : Nat) (h : i < 25) : (ofLanes f)[i] = f i := by
  rw [ofLanes_eq_ofFn, Vector.getElem_ofFn]

@[simp] theorem getElem_ofGrid (f : Nat → Nat → Word) (i : Nat) (h : i < 25) :
    (ofGrid f)[i] = f (i % 5) (i / 5) := getElem_ofLanes _ i h

@[simp] theorem laneNumber_eq (a : LaneFile) (i : Nat) (h : i < 25) : laneNumber a i = a[i] := by
  simp [laneNumber, h]

/-- A[x,y] of a lane number. -/
@[simp] theorem laneAt_mod_div (a : LaneFile) (i : Nat) (h : i < 25) : laneAt a (i % 5) (i / 5) = a[i] := by
  unfold laneAt
  rw [show i % 5 % 5 + 5 * (i / 5 % 5) = i by omega, laneNumber_eq a i h]

/-- A[x,y] of indices in range. -/
theorem laneAt_of_lt (a : LaneFile) (x y : Nat) (hx : x < 5) (hy : y < 5) : laneAt a x y = a[x + 5 * y] := by
  unfold laneAt
  rw [Nat.mod_eq_of_lt hx, Nat.mod_eq_of_lt hy, laneNumber_eq]

/-- Tabulating depends only on the 25 values. -/
theorem ofLanes_congr {f g : Nat → Word} (h : ∀ i, i < 25 → f i = g i) : ofLanes f = ofLanes g := by
  ext i hi : 1
  simp [h i hi]

/-- ROTL64 is the library's rotation for every amount the rules use. -/
theorem rotl64_eq_rotateLeft (v : Word) (n : Nat) (h : n < 64) : rotl64 v n = v.rotateLeft n := by
  unfold rotl64
  split
  · subst_vars
    simp only [BitVec.rotateLeft, BitVec.rotateLeftAux]
    ext i hi
    simp
  · rw [BitVec.rotateLeft_def, Nat.mod_eq_of_lt h]

/-- A byte taken from a word that ends in a byte: the low one is that byte, a higher one comes from the rest. -/
theorem extract_byte_append {w : Nat} (v : BitVec w) (b : Byte) (k : Nat) :
    (v ++ b).extractLsb' (8 * k) 8 = if k = 0 then b else v.extractLsb' (8 * (k - 1)) 8 := by
  split
  · subst_vars
    ext j hj
    simp [BitVec.getLsbD_append, hj]
  · ext j hj
    rw [BitVec.getElem_extractLsb', BitVec.getElem_extractLsb', BitVec.getLsbD_append, if_neg (by omega)]
    congr 1
    omega

/-- Byte k of LE64 is b[k]. -/
theorem byteOf_le64 (b : Nat → Byte) (k : Nat) (hk : k < 8) : byteOf (le64 b) k = b k := by
  unfold byteOf le64
  iterate 7
    rw [extract_byte_append]
    split
    · congr 1
      omega
  obtain rfl : k = 7 := by omega
  simp

/-- A word is its 8 bytes. -/
theorem eq_of_byteOf {v w : Word} (h : ∀ k, k < 8 → byteOf v k = byteOf w k) : v = w := by
  ext i hi
  have hb := congrArg (fun b : Byte => b.getLsbD (i % 8)) (h (i / 8) (by omega))
  simp only [byteOf, BitVec.getLsbD_extractLsb', show i % 8 < 8 by omega, decide_true, Bool.true_and] at hb
  rwa [show 8 * (i / 8) + i % 8 = i by omega, BitVec.getLsbD_eq_getElem hi, BitVec.getLsbD_eq_getElem hi] at hb

/-- LE64 depends only on its 8 bytes. -/
theorem le64_congr {b c : Nat → Byte} (h : ∀ k, k < 8 → b k = c k) : le64 b = le64 c :=
  eq_of_byteOf fun k hk => by rw [byteOf_le64 b k hk, byteOf_le64 c k hk, h k hk]

/-- LE64 of a word's bytes is the word. -/
theorem le64_byteOf (w : Word) : le64 (byteOf w) = w := eq_of_byteOf fun k hk => byteOf_le64 _ k hk

theorem byteOf_xor (v w : Word) (k : Nat) : byteOf (v ^^^ w) k = byteOf v k ^^^ byteOf w k := by
  unfold byteOf
  ext j hj
  simp

/-- The block is a whole number of lanes, for every value of VAR. -/
theorem eight_mul_rateLanes (v : Variant) : 8 * rateLanes v = blockSize v := by cases v <;> rfl

theorem rateLanes_le (v : Variant) : rateLanes v ≤ 25 := by cases v <;> decide

/-- BS is at least 72, and at most the size of PBUF when there is an instance. -/
theorem blockSize_bounds (v : Variant) (h : v ≠ .unset) : 72 ≤ blockSize v ∧ blockSize v ≤ 144 := by
  cases v <;> first | exact absurd rfl h | decide

theorem le_blockSize (v : Variant) : 72 ≤ blockSize v := by cases v <;> decide

/-- The digest fits in one rate block and in DIG. -/
theorem digestLength_le (v : Variant) : digestLength v ≤ 64 := by cases v <;> decide

/-- INIT's number is legal exactly for the four variants. -/
theorem variantOfNumber_eq_some {n : Nat} {v : Variant} :
    variantOfNumber n = some v ↔ v ≠ .unset ∧ n = variantBits v := by
  unfold variantOfNumber
  constructor
  · intro h
    split at h <;> (try split at h) <;> (try split at h) <;> (try split at h) <;> cases h <;>
      exact ⟨by decide, by assumption⟩
  · rintro ⟨hv, rfl⟩
    cases v <;> first | exact absurd rfl hv | rfl

theorem variantOfNumber_eq_none {n : Nat} :
    variantOfNumber n = none ↔ n ≠ 224 ∧ n ≠ 256 ∧ n ≠ 384 ∧ n ≠ 512 := by
  unfold variantOfNumber
  repeat' split
  all_goals simp_all

end Sys2Proof.Machine
end

