-- ==== Sys2Proof/Laws/State.lean ====
section
/-!
SUPPORT. One lemma per field for every named update of the state, true by its definition, so that no later proof unfolds a
record update.
-/

namespace Sys2Proof.Machine

@[simp] theorem respond_lanes (v : Word) (s : State) :
    (respond v s).lanes = s.lanes := rfl
@[simp] theorem respond_cfg (v : Word) (s : State) :
    (respond v s).cfg = s.cfg := rfl
@[simp] theorem respond_var (v : Word) (s : State) :
    (respond v s).var = s.var := rfl
@[simp] theorem respond_pbuf (v : Word) (s : State) :
    (respond v s).pbuf = s.pbuf := rfl
@[simp] theorem respond_plen (v : Word) (s : State) :
    (respond v s).plen = s.plen := rfl
@[simp] theorem respond_bproc (v : Word) (s : State) :
    (respond v s).bproc = s.bproc := rfl
@[simp] theorem respond_dig (v : Word) (s : State) :
    (respond v s).dig = s.dig := rfl
@[simp] theorem respond_dv (v : Word) (s : State) :
    (respond v s).dv = s.dv := rfl
@[simp] theorem respond_err (v : Word) (s : State) :
    (respond v s).err = s.err := rfl
@[simp] theorem respond_resp (v : Word) (s : State) :
    (respond v s).resp = v := rfl
@[simp] theorem respond_launched (v : Word) (s : State) :
    (respond v s).launched = s.launched := rfl
@[simp] theorem respond_everFailed (v : Word) (s : State) :
    (respond v s).everFailed = s.everFailed := rfl
@[simp] theorem respond_port (v : Word) (s : State) :
    (respond v s).port = s.port := rfl
@[simp] theorem respond_responses (v : Word) (s : State) :
    (respond v s).responses = s.responses := rfl

@[simp] theorem respondStatus_lanes (s : State) :
    (respondStatus s).lanes = s.lanes := rfl
@[simp] theorem respondStatus_cfg (s : State) :
    (respondStatus s).cfg = s.cfg := rfl
@[simp] theorem respondStatus_var (s : State) :
    (respondStatus s).var = s.var := rfl
@[simp] theorem respondStatus_pbuf (s : State) :
    (respondStatus s).pbuf = s.pbuf := rfl
@[simp] theorem respondStatus_plen (s : State) :
    (respondStatus s).plen = s.plen := rfl
@[simp] theorem respondStatus_bproc (s : State) :
    (respondStatus s).bproc = s.bproc := rfl
@[simp] theorem respondStatus_dig (s : State) :
    (respondStatus s).dig = s.dig := rfl
@[simp] theorem respondStatus_dv (s : State) :
    (respondStatus s).dv = s.dv := rfl
@[simp] theorem respondStatus_err (s : State) :
    (respondStatus s).err = s.err := rfl
@[simp] theorem respondStatus_resp (s : State) :
    (respondStatus s).resp = statusResponse s := rfl
@[simp] theorem respondStatus_launched (s : State) :
    (respondStatus s).launched = s.launched := rfl
@[simp] theorem respondStatus_everFailed (s : State) :
    (respondStatus s).everFailed = s.everFailed := rfl
@[simp] theorem respondStatus_port (s : State) :
    (respondStatus s).port = s.port := rfl
@[simp] theorem respondStatus_responses (s : State) :
    (respondStatus s).responses = s.responses := rfl

@[simp] theorem recordError_lanes (c : ErrorCode) (s : State) :
    (recordError c s).lanes = s.lanes := rfl
@[simp] theorem recordError_cfg (c : ErrorCode) (s : State) :
    (recordError c s).cfg = s.cfg := rfl
@[simp] theorem recordError_var (c : ErrorCode) (s : State) :
    (recordError c s).var = s.var := rfl
@[simp] theorem recordError_pbuf (c : ErrorCode) (s : State) :
    (recordError c s).pbuf = s.pbuf := rfl
@[simp] theorem recordError_plen (c : ErrorCode) (s : State) :
    (recordError c s).plen = s.plen := rfl
@[simp] theorem recordError_bproc (c : ErrorCode) (s : State) :
    (recordError c s).bproc = s.bproc := rfl
@[simp] theorem recordError_dig (c : ErrorCode) (s : State) :
    (recordError c s).dig = s.dig := rfl
@[simp] theorem recordError_dv (c : ErrorCode) (s : State) :
    (recordError c s).dv = s.dv := rfl
@[simp] theorem recordError_err (c : ErrorCode) (s : State) :
    (recordError c s).err = if s.err = .noError then c else s.err := rfl
@[simp] theorem recordError_resp (c : ErrorCode) (s : State) :
    (recordError c s).resp = s.resp := rfl
@[simp] theorem recordError_launched (c : ErrorCode) (s : State) :
    (recordError c s).launched = s.launched := rfl
@[simp] theorem recordError_everFailed (c : ErrorCode) (s : State) :
    (recordError c s).everFailed = true := rfl
@[simp] theorem recordError_port (c : ErrorCode) (s : State) :
    (recordError c s).port = s.port := rfl
@[simp] theorem recordError_responses (c : ErrorCode) (s : State) :
    (recordError c s).responses = s.responses := rfl

@[simp] theorem failWith_lanes (c : ErrorCode) (s : State) :
    (failWith c s).lanes = s.lanes := rfl
@[simp] theorem failWith_cfg (c : ErrorCode) (s : State) :
    (failWith c s).cfg = s.cfg := rfl
@[simp] theorem failWith_var (c : ErrorCode) (s : State) :
    (failWith c s).var = s.var := rfl
@[simp] theorem failWith_pbuf (c : ErrorCode) (s : State) :
    (failWith c s).pbuf = s.pbuf := rfl
@[simp] theorem failWith_plen (c : ErrorCode) (s : State) :
    (failWith c s).plen = s.plen := rfl
@[simp] theorem failWith_bproc (c : ErrorCode) (s : State) :
    (failWith c s).bproc = s.bproc := rfl
@[simp] theorem failWith_dig (c : ErrorCode) (s : State) :
    (failWith c s).dig = s.dig := rfl
@[simp] theorem failWith_dv (c : ErrorCode) (s : State) :
    (failWith c s).dv = s.dv := rfl
@[simp] theorem failWith_err (c : ErrorCode) (s : State) :
    (failWith c s).err = if s.err = .noError then c else s.err := rfl
@[simp] theorem failWith_resp (c : ErrorCode) (s : State) :
    (failWith c s).resp = statusResponse (recordError c s) := rfl
@[simp] theorem failWith_launched (c : ErrorCode) (s : State) :
    (failWith c s).launched = s.launched := rfl
@[simp] theorem failWith_everFailed (c : ErrorCode) (s : State) :
    (failWith c s).everFailed = true := rfl
@[simp] theorem failWith_port (c : ErrorCode) (s : State) :
    (failWith c s).port = s.port := rfl
@[simp] theorem failWith_responses (c : ErrorCode) (s : State) :
    (failWith c s).responses = s.responses := rfl

@[simp] theorem clearComputation_lanes (s : State) :
    (clearComputation s).lanes = Vector.replicate 25 0#64 := rfl
@[simp] theorem clearComputation_cfg (s : State) :
    (clearComputation s).cfg = s.cfg := rfl
@[simp] theorem clearComputation_var (s : State) :
    (clearComputation s).var = s.var := rfl
@[simp] theorem clearComputation_pbuf (s : State) :
    (clearComputation s).pbuf = Vector.replicate 144 0#8 := rfl
@[simp] theorem clearComputation_plen (s : State) :
    (clearComputation s).plen = 0#8 := rfl
@[simp] theorem clearComputation_bproc (s : State) :
    (clearComputation s).bproc = 0#64 := rfl
@[simp] theorem clearComputation_dig (s : State) :
    (clearComputation s).dig = s.dig := rfl
@[simp] theorem clearComputation_dv (s : State) :
    (clearComputation s).dv = s.dv := rfl
@[simp] theorem clearComputation_err (s : State) :
    (clearComputation s).err = s.err := rfl
@[simp] theorem clearComputation_resp (s : State) :
    (clearComputation s).resp = s.resp := rfl
@[simp] theorem clearComputation_launched (s : State) :
    (clearComputation s).launched = s.launched := rfl
@[simp] theorem clearComputation_everFailed (s : State) :
    (clearComputation s).everFailed = s.everFailed := rfl
@[simp] theorem clearComputation_port (s : State) :
    (clearComputation s).port = s.port := rfl
@[simp] theorem clearComputation_responses (s : State) :
    (clearComputation s).responses = s.responses := rfl

@[simp] theorem clearDigest_lanes (s : State) :
    (clearDigest s).lanes = s.lanes := rfl
@[simp] theorem clearDigest_cfg (s : State) :
    (clearDigest s).cfg = s.cfg := rfl
@[simp] theorem clearDigest_var (s : State) :
    (clearDigest s).var = s.var := rfl
@[simp] theorem clearDigest_pbuf (s : State) :
    (clearDigest s).pbuf = s.pbuf := rfl
@[simp] theorem clearDigest_plen (s : State) :
    (clearDigest s).plen = s.plen := rfl
@[simp] theorem clearDigest_bproc (s : State) :
    (clearDigest s).bproc = s.bproc := rfl
@[simp] theorem clearDigest_dig (s : State) :
    (clearDigest s).dig = Vector.replicate 64 0#8 := rfl
@[simp] theorem clearDigest_dv (s : State) :
    (clearDigest s).dv = false := rfl
@[simp] theorem clearDigest_err (s : State) :
    (clearDigest s).err = s.err := rfl
@[simp] theorem clearDigest_resp (s : State) :
    (clearDigest s).resp = s.resp := rfl
@[simp] theorem clearDigest_launched (s : State) :
    (clearDigest s).launched = s.launched := rfl
@[simp] theorem clearDigest_everFailed (s : State) :
    (clearDigest s).everFailed = s.everFailed := rfl
@[simp] theorem clearDigest_port (s : State) :
    (clearDigest s).port = s.port := rfl
@[simp] theorem clearDigest_responses (s : State) :
    (clearDigest s).responses = s.responses := rfl

@[simp] theorem configure_lanes (v : Variant) (s : State) :
    (configure v s).lanes = s.lanes := rfl
@[simp] theorem configure_cfg (v : Variant) (s : State) :
    (configure v s).cfg = true := rfl
@[simp] theorem configure_var (v : Variant) (s : State) :
    (configure v s).var = v := rfl
@[simp] theorem configure_pbuf (v : Variant) (s : State) :
    (configure v s).pbuf = s.pbuf := rfl
@[simp] theorem configure_plen (v : Variant) (s : State) :
    (configure v s).plen = s.plen := rfl
@[simp] theorem configure_bproc (v : Variant) (s : State) :
    (configure v s).bproc = s.bproc := rfl
@[simp] theorem configure_dig (v : Variant) (s : State) :
    (configure v s).dig = s.dig := rfl
@[simp] theorem configure_dv (v : Variant) (s : State) :
    (configure v s).dv = s.dv := rfl
@[simp] theorem configure_err (v : Variant) (s : State) :
    (configure v s).err = s.err := rfl
@[simp] theorem configure_resp (v : Variant) (s : State) :
    (configure v s).resp = s.resp := rfl
@[simp] theorem configure_launched (v : Variant) (s : State) :
    (configure v s).launched = s.launched := rfl
@[simp] theorem configure_everFailed (v : Variant) (s : State) :
    (configure v s).everFailed = s.everFailed := rfl
@[simp] theorem configure_port (v : Variant) (s : State) :
    (configure v s).port = s.port := rfl
@[simp] theorem configure_responses (v : Variant) (s : State) :
    (configure v s).responses = s.responses := rfl

@[simp] theorem clearError_lanes (s : State) :
    (clearError s).lanes = s.lanes := rfl
@[simp] theorem clearError_cfg (s : State) :
    (clearError s).cfg = s.cfg := rfl
@[simp] theorem clearError_var (s : State) :
    (clearError s).var = s.var := rfl
@[simp] theorem clearError_pbuf (s : State) :
    (clearError s).pbuf = s.pbuf := rfl
@[simp] theorem clearError_plen (s : State) :
    (clearError s).plen = s.plen := rfl
@[simp] theorem clearError_bproc (s : State) :
    (clearError s).bproc = s.bproc := rfl
@[simp] theorem clearError_dig (s : State) :
    (clearError s).dig = s.dig := rfl
@[simp] theorem clearError_dv (s : State) :
    (clearError s).dv = s.dv := rfl
@[simp] theorem clearError_err (s : State) :
    (clearError s).err = .noError := rfl
@[simp] theorem clearError_resp (s : State) :
    (clearError s).resp = s.resp := rfl
@[simp] theorem clearError_launched (s : State) :
    (clearError s).launched = s.launched := rfl
@[simp] theorem clearError_everFailed (s : State) :
    (clearError s).everFailed = s.everFailed := rfl
@[simp] theorem clearError_port (s : State) :
    (clearError s).port = s.port := rfl
@[simp] theorem clearError_responses (s : State) :
    (clearError s).responses = s.responses := rfl

@[simp] theorem freshInstance_lanes (v : Variant) (s : State) :
    (freshInstance v s).lanes = Vector.replicate 25 0#64 := rfl
@[simp] theorem freshInstance_cfg (v : Variant) (s : State) :
    (freshInstance v s).cfg = true := rfl
@[simp] theorem freshInstance_var (v : Variant) (s : State) :
    (freshInstance v s).var = v := rfl
@[simp] theorem freshInstance_pbuf (v : Variant) (s : State) :
    (freshInstance v s).pbuf = Vector.replicate 144 0#8 := rfl
@[simp] theorem freshInstance_plen (v : Variant) (s : State) :
    (freshInstance v s).plen = 0#8 := rfl
@[simp] theorem freshInstance_bproc (v : Variant) (s : State) :
    (freshInstance v s).bproc = 0#64 := rfl
@[simp] theorem freshInstance_dig (v : Variant) (s : State) :
    (freshInstance v s).dig = Vector.replicate 64 0#8 := rfl
@[simp] theorem freshInstance_dv (v : Variant) (s : State) :
    (freshInstance v s).dv = false := rfl
@[simp] theorem freshInstance_err (v : Variant) (s : State) :
    (freshInstance v s).err = .noError := rfl
@[simp] theorem freshInstance_resp (v : Variant) (s : State) :
    (freshInstance v s).resp = s.resp := rfl
@[simp] theorem freshInstance_launched (v : Variant) (s : State) :
    (freshInstance v s).launched = s.launched := rfl
@[simp] theorem freshInstance_everFailed (v : Variant) (s : State) :
    (freshInstance v s).everFailed = s.everFailed := rfl
@[simp] theorem freshInstance_port (v : Variant) (s : State) :
    (freshInstance v s).port = s.port := rfl
@[simp] theorem freshInstance_responses (v : Variant) (s : State) :
    (freshInstance v s).responses = s.responses := rfl

@[simp] theorem recordResponse_lanes (s : State) :
    (recordResponse s).lanes = s.lanes := rfl
@[simp] theorem recordResponse_cfg (s : State) :
    (recordResponse s).cfg = s.cfg := rfl
@[simp] theorem recordResponse_var (s : State) :
    (recordResponse s).var = s.var := rfl
@[simp] theorem recordResponse_pbuf (s : State) :
    (recordResponse s).pbuf = s.pbuf := rfl
@[simp] theorem recordResponse_plen (s : State) :
    (recordResponse s).plen = s.plen := rfl
@[simp] theorem recordResponse_bproc (s : State) :
    (recordResponse s).bproc = s.bproc := rfl
@[simp] theorem recordResponse_dig (s : State) :
    (recordResponse s).dig = s.dig := rfl
@[simp] theorem recordResponse_dv (s : State) :
    (recordResponse s).dv = s.dv := rfl
@[simp] theorem recordResponse_err (s : State) :
    (recordResponse s).err = s.err := rfl
@[simp] theorem recordResponse_resp (s : State) :
    (recordResponse s).resp = s.resp := rfl
@[simp] theorem recordResponse_launched (s : State) :
    (recordResponse s).launched = s.launched := rfl
@[simp] theorem recordResponse_everFailed (s : State) :
    (recordResponse s).everFailed = s.everFailed := rfl
@[simp] theorem recordResponse_port (s : State) :
    (recordResponse s).port = s.port := rfl
@[simp] theorem recordResponse_responses (s : State) :
    (recordResponse s).responses = s.responses ++ [s.resp] := rfl

@[simp] theorem absorbBlock_lanes (b : Nat → Byte) (s : State) :
    (absorbBlock b s).lanes = keccakF (xorBlock (rateLanes s.var) b s.lanes) := rfl
@[simp] theorem absorbBlock_cfg (b : Nat → Byte) (s : State) :
    (absorbBlock b s).cfg = s.cfg := rfl
@[simp] theorem absorbBlock_var (b : Nat → Byte) (s : State) :
    (absorbBlock b s).var = s.var := rfl
@[simp] theorem absorbBlock_pbuf (b : Nat → Byte) (s : State) :
    (absorbBlock b s).pbuf = s.pbuf := rfl
@[simp] theorem absorbBlock_plen (b : Nat → Byte) (s : State) :
    (absorbBlock b s).plen = s.plen := rfl
@[simp] theorem absorbBlock_bproc (b : Nat → Byte) (s : State) :
    (absorbBlock b s).bproc = s.bproc := rfl
@[simp] theorem absorbBlock_dig (b : Nat → Byte) (s : State) :
    (absorbBlock b s).dig = s.dig := rfl
@[simp] theorem absorbBlock_dv (b : Nat → Byte) (s : State) :
    (absorbBlock b s).dv = s.dv := rfl
@[simp] theorem absorbBlock_err (b : Nat → Byte) (s : State) :
    (absorbBlock b s).err = s.err := rfl
@[simp] theorem absorbBlock_resp (b : Nat → Byte) (s : State) :
    (absorbBlock b s).resp = s.resp := rfl
@[simp] theorem absorbBlock_launched (b : Nat → Byte) (s : State) :
    (absorbBlock b s).launched = s.launched := rfl
@[simp] theorem absorbBlock_everFailed (b : Nat → Byte) (s : State) :
    (absorbBlock b s).everFailed = s.everFailed := rfl
@[simp] theorem absorbBlock_port (b : Nat → Byte) (s : State) :
    (absorbBlock b s).port = s.port := rfl
@[simp] theorem absorbBlock_responses (b : Nat → Byte) (s : State) :
    (absorbBlock b s).responses = s.responses := rfl

@[simp] theorem appendByte_lanes (b : Byte) (s : State) :
    (appendByte b s).lanes = s.lanes := rfl
@[simp] theorem appendByte_cfg (b : Byte) (s : State) :
    (appendByte b s).cfg = s.cfg := rfl
@[simp] theorem appendByte_var (b : Byte) (s : State) :
    (appendByte b s).var = s.var := rfl
@[simp] theorem appendByte_pbuf (b : Byte) (s : State) :
    (appendByte b s).pbuf = s.pbuf.setIfInBounds s.plen.toNat b := rfl
@[simp] theorem appendByte_plen (b : Byte) (s : State) :
    (appendByte b s).plen = s.plen + 1#8 := rfl
@[simp] theorem appendByte_bproc (b : Byte) (s : State) :
    (appendByte b s).bproc = s.bproc := rfl
@[simp] theorem appendByte_dig (b : Byte) (s : State) :
    (appendByte b s).dig = s.dig := rfl
@[simp] theorem appendByte_dv (b : Byte) (s : State) :
    (appendByte b s).dv = s.dv := rfl
@[simp] theorem appendByte_err (b : Byte) (s : State) :
    (appendByte b s).err = s.err := rfl
@[simp] theorem appendByte_resp (b : Byte) (s : State) :
    (appendByte b s).resp = s.resp := rfl
@[simp] theorem appendByte_launched (b : Byte) (s : State) :
    (appendByte b s).launched = s.launched := rfl
@[simp] theorem appendByte_everFailed (b : Byte) (s : State) :
    (appendByte b s).everFailed = s.everFailed := rfl
@[simp] theorem appendByte_port (b : Byte) (s : State) :
    (appendByte b s).port = s.port := rfl
@[simp] theorem appendByte_responses (b : Byte) (s : State) :
    (appendByte b s).responses = s.responses := rfl

@[simp] theorem flushBlock_lanes (s : State) :
    (flushBlock s).lanes = keccakF (xorBlock (rateLanes s.var) (pbufByte s) s.lanes) := rfl
@[simp] theorem flushBlock_cfg (s : State) :
    (flushBlock s).cfg = s.cfg := rfl
@[simp] theorem flushBlock_var (s : State) :
    (flushBlock s).var = s.var := rfl
@[simp] theorem flushBlock_pbuf (s : State) :
    (flushBlock s).pbuf = s.pbuf := rfl
@[simp] theorem flushBlock_plen (s : State) :
    (flushBlock s).plen = 0#8 := rfl
@[simp] theorem flushBlock_bproc (s : State) :
    (flushBlock s).bproc = s.bproc + BitVec.ofNat 64 (blockSize s.var) := rfl
@[simp] theorem flushBlock_dig (s : State) :
    (flushBlock s).dig = s.dig := rfl
@[simp] theorem flushBlock_dv (s : State) :
    (flushBlock s).dv = s.dv := rfl
@[simp] theorem flushBlock_err (s : State) :
    (flushBlock s).err = s.err := rfl
@[simp] theorem flushBlock_resp (s : State) :
    (flushBlock s).resp = s.resp := rfl
@[simp] theorem flushBlock_launched (s : State) :
    (flushBlock s).launched = s.launched := rfl
@[simp] theorem flushBlock_everFailed (s : State) :
    (flushBlock s).everFailed = s.everFailed := rfl
@[simp] theorem flushBlock_port (s : State) :
    (flushBlock s).port = s.port := rfl
@[simp] theorem flushBlock_responses (s : State) :
    (flushBlock s).responses = s.responses := rfl

@[simp] theorem latchDigest_lanes (s : State) :
    (latchDigest s).lanes = s.lanes := rfl
@[simp] theorem latchDigest_cfg (s : State) :
    (latchDigest s).cfg = s.cfg := rfl
@[simp] theorem latchDigest_var (s : State) :
    (latchDigest s).var = s.var := rfl
@[simp] theorem latchDigest_pbuf (s : State) :
    (latchDigest s).pbuf = s.pbuf := rfl
@[simp] theorem latchDigest_plen (s : State) :
    (latchDigest s).plen = s.plen := rfl
@[simp] theorem latchDigest_bproc (s : State) :
    (latchDigest s).bproc = s.bproc := rfl
@[simp] theorem latchDigest_dig (s : State) :
    (latchDigest s).dig = digestOf s.var s.lanes := rfl
@[simp] theorem latchDigest_dv (s : State) :
    (latchDigest s).dv = true := rfl
@[simp] theorem latchDigest_err (s : State) :
    (latchDigest s).err = s.err := rfl
@[simp] theorem latchDigest_resp (s : State) :
    (latchDigest s).resp = s.resp := rfl
@[simp] theorem latchDigest_launched (s : State) :
    (latchDigest s).launched = s.launched := rfl
@[simp] theorem latchDigest_everFailed (s : State) :
    (latchDigest s).everFailed = s.everFailed := rfl
@[simp] theorem latchDigest_port (s : State) :
    (latchDigest s).port = s.port := rfl
@[simp] theorem latchDigest_responses (s : State) :
    (latchDigest s).responses = s.responses := rfl

@[simp] theorem placeMove_lanes (m : HostMove) (s : State) :
    (placeMove m s).lanes = s.lanes := rfl
@[simp] theorem placeMove_cfg (m : HostMove) (s : State) :
    (placeMove m s).cfg = s.cfg := rfl
@[simp] theorem placeMove_var (m : HostMove) (s : State) :
    (placeMove m s).var = s.var := rfl
@[simp] theorem placeMove_pbuf (m : HostMove) (s : State) :
    (placeMove m s).pbuf = s.pbuf := rfl
@[simp] theorem placeMove_plen (m : HostMove) (s : State) :
    (placeMove m s).plen = s.plen := rfl
@[simp] theorem placeMove_bproc (m : HostMove) (s : State) :
    (placeMove m s).bproc = s.bproc := rfl
@[simp] theorem placeMove_dig (m : HostMove) (s : State) :
    (placeMove m s).dig = s.dig := rfl
@[simp] theorem placeMove_dv (m : HostMove) (s : State) :
    (placeMove m s).dv = s.dv := rfl
@[simp] theorem placeMove_err (m : HostMove) (s : State) :
    (placeMove m s).err = s.err := rfl
@[simp] theorem placeMove_resp (m : HostMove) (s : State) :
    (placeMove m s).resp = s.resp := rfl
@[simp] theorem placeMove_launched (m : HostMove) (s : State) :
    (placeMove m s).launched = s.launched := rfl
@[simp] theorem placeMove_everFailed (m : HostMove) (s : State) :
    (placeMove m s).everFailed = s.everFailed := rfl
@[simp] theorem placeMove_port (m : HostMove) (s : State) :
    (placeMove m s).port = m :: s.port := rfl
@[simp] theorem placeMove_responses (m : HostMove) (s : State) :
    (placeMove m s).responses = s.responses := rfl

@[simp] theorem releaseIf_lanes (d : Bool) (s : State) :
    (releaseIf d s).lanes = s.lanes := by cases d <;> rfl
@[simp] theorem releaseIf_cfg (d : Bool) (s : State) :
    (releaseIf d s).cfg = (!d && s.cfg) := by cases d <;> rfl
@[simp] theorem releaseIf_var (d : Bool) (s : State) :
    (releaseIf d s).var = if d then .unset else s.var := by cases d <;> rfl
@[simp] theorem releaseIf_pbuf (d : Bool) (s : State) :
    (releaseIf d s).pbuf = s.pbuf := by cases d <;> rfl
@[simp] theorem releaseIf_plen (d : Bool) (s : State) :
    (releaseIf d s).plen = s.plen := by cases d <;> rfl
@[simp] theorem releaseIf_bproc (d : Bool) (s : State) :
    (releaseIf d s).bproc = s.bproc := by cases d <;> rfl
@[simp] theorem releaseIf_dig (d : Bool) (s : State) :
    (releaseIf d s).dig = s.dig := by cases d <;> rfl
@[simp] theorem releaseIf_dv (d : Bool) (s : State) :
    (releaseIf d s).dv = s.dv := by cases d <;> rfl
@[simp] theorem releaseIf_err (d : Bool) (s : State) :
    (releaseIf d s).err = s.err := by cases d <;> rfl
@[simp] theorem releaseIf_resp (d : Bool) (s : State) :
    (releaseIf d s).resp = s.resp := by cases d <;> rfl
@[simp] theorem releaseIf_launched (d : Bool) (s : State) :
    (releaseIf d s).launched = s.launched := by cases d <;> rfl
@[simp] theorem releaseIf_everFailed (d : Bool) (s : State) :
    (releaseIf d s).everFailed = s.everFailed := by cases d <;> rfl
@[simp] theorem releaseIf_port (d : Bool) (s : State) :
    (releaseIf d s).port = s.port := by cases d <;> rfl
@[simp] theorem releaseIf_responses (d : Bool) (s : State) :
    (releaseIf d s).responses = s.responses := by cases d <;> rfl

@[simp] theorem hardwareReset_lanes (s : State) : (hardwareReset s).lanes = State.reset.lanes := rfl
@[simp] theorem hardwareReset_cfg (s : State) : (hardwareReset s).cfg = State.reset.cfg := rfl
@[simp] theorem hardwareReset_var (s : State) : (hardwareReset s).var = State.reset.var := rfl
@[simp] theorem hardwareReset_pbuf (s : State) : (hardwareReset s).pbuf = State.reset.pbuf := rfl
@[simp] theorem hardwareReset_plen (s : State) : (hardwareReset s).plen = State.reset.plen := rfl
@[simp] theorem hardwareReset_bproc (s : State) : (hardwareReset s).bproc = State.reset.bproc := rfl
@[simp] theorem hardwareReset_dig (s : State) : (hardwareReset s).dig = State.reset.dig := rfl
@[simp] theorem hardwareReset_dv (s : State) : (hardwareReset s).dv = State.reset.dv := rfl
@[simp] theorem hardwareReset_err (s : State) : (hardwareReset s).err = State.reset.err := rfl
@[simp] theorem hardwareReset_resp (s : State) : (hardwareReset s).resp = State.reset.resp := rfl
@[simp] theorem hardwareReset_launched (s : State) : (hardwareReset s).launched = State.reset.launched := rfl
@[simp] theorem hardwareReset_everFailed (s : State) : (hardwareReset s).everFailed = s.everFailed := rfl
@[simp] theorem hardwareReset_port (s : State) : (hardwareReset s).port = s.port := rfl
@[simp] theorem hardwareReset_responses (s : State) : (hardwareReset s).responses = s.responses := rfl

end Sys2Proof.Machine
end

