-- ==== Sys2Proof/Laws/Absorb.lean ====
section
/-!
SUPPORT. What absorbing can do: the two outcomes of AbsorbByte, the fields no absorbing touches, and how a block and the pending
buffer are read.
-/

namespace Sys2Proof.Machine

/-- AbsorbByte has two outcomes: the byte is pending, or the block it completes is flushed. -/
theorem absorbByte_cases (s : State) (b : Byte) :
    (blockFull (appendByte b s) = false ∧ absorbByte s b = appendByte b s) ∨
    (blockFull (appendByte b s) = true ∧ absorbByte s b = flushBlock (appendByte b s)) := by
  unfold absorbByte
  cases blockFull (appendByte b s) <;> simp

@[simp] theorem absorbBytes_nil (s : State) : absorbBytes [] s = s := rfl

@[simp] theorem absorbBytes_cons (b : Byte) (bs : List Byte) (s : State) :
    absorbBytes (b :: bs) s = absorbBytes bs (absorbByte s b) := rfl

theorem absorbBytes_append (as bs : List Byte) (s : State) :
    absorbBytes (as ++ bs) s = absorbBytes bs (absorbBytes as s) := List.foldl_append

/-- What AbsorbByte keeps: every observation that does not look at the lanes, PBUF, PLEN and BPROC. -/
theorem absorbByte_keeps {α : Type} (f : State → α)
    (hf : ∀ s l p n k, f { s with lanes := l, pbuf := p, plen := n, bproc := k } = f s) (s : State) (b : Byte) :
    f (absorbByte s b) = f s := by
  obtain ⟨_, h⟩ | ⟨_, h⟩ := absorbByte_cases s b <;> rw [h]
  · exact hf s s.lanes _ _ s.bproc
  · exact hf s _ _ _ _

/-- Absorbing any bytes keeps the same. -/
theorem absorbBytes_keeps {α : Type} (f : State → α)
    (hf : ∀ s l p n k, f { s with lanes := l, pbuf := p, plen := n, bproc := k } = f s) (bs : List Byte) :
    ∀ s, f (absorbBytes bs s) = f s := by
  induction bs with
  | nil => exact fun _ => rfl
  | cons b bs ih => exact fun s => (ih _).trans (absorbByte_keeps f hf s b)

@[simp] theorem absorbByte_cfg (s : State) (b : Byte) : (absorbByte s b).cfg = s.cfg :=
  absorbByte_keeps (·.cfg) (fun _ _ _ _ _ => rfl) s b
@[simp] theorem absorbByte_var (s : State) (b : Byte) : (absorbByte s b).var = s.var :=
  absorbByte_keeps (·.var) (fun _ _ _ _ _ => rfl) s b
@[simp] theorem absorbByte_dig (s : State) (b : Byte) : (absorbByte s b).dig = s.dig :=
  absorbByte_keeps (·.dig) (fun _ _ _ _ _ => rfl) s b
@[simp] theorem absorbByte_dv (s : State) (b : Byte) : (absorbByte s b).dv = s.dv :=
  absorbByte_keeps (·.dv) (fun _ _ _ _ _ => rfl) s b
@[simp] theorem absorbByte_err (s : State) (b : Byte) : (absorbByte s b).err = s.err :=
  absorbByte_keeps (·.err) (fun _ _ _ _ _ => rfl) s b
@[simp] theorem absorbByte_resp (s : State) (b : Byte) : (absorbByte s b).resp = s.resp :=
  absorbByte_keeps (·.resp) (fun _ _ _ _ _ => rfl) s b
@[simp] theorem absorbByte_launched (s : State) (b : Byte) : (absorbByte s b).launched = s.launched :=
  absorbByte_keeps (·.launched) (fun _ _ _ _ _ => rfl) s b
@[simp] theorem absorbByte_everFailed (s : State) (b : Byte) : (absorbByte s b).everFailed = s.everFailed :=
  absorbByte_keeps (·.everFailed) (fun _ _ _ _ _ => rfl) s b
@[simp] theorem absorbByte_port (s : State) (b : Byte) : (absorbByte s b).port = s.port :=
  absorbByte_keeps (·.port) (fun _ _ _ _ _ => rfl) s b
@[simp] theorem absorbByte_responses (s : State) (b : Byte) : (absorbByte s b).responses = s.responses :=
  absorbByte_keeps (·.responses) (fun _ _ _ _ _ => rfl) s b
@[simp] theorem absorbBytes_cfg (bs : List Byte) (s : State) : (absorbBytes bs s).cfg = s.cfg :=
  absorbBytes_keeps (·.cfg) (fun _ _ _ _ _ => rfl) bs s
@[simp] theorem absorbBytes_var (bs : List Byte) (s : State) : (absorbBytes bs s).var = s.var :=
  absorbBytes_keeps (·.var) (fun _ _ _ _ _ => rfl) bs s
@[simp] theorem absorbBytes_dig (bs : List Byte) (s : State) : (absorbBytes bs s).dig = s.dig :=
  absorbBytes_keeps (·.dig) (fun _ _ _ _ _ => rfl) bs s
@[simp] theorem absorbBytes_dv (bs : List Byte) (s : State) : (absorbBytes bs s).dv = s.dv :=
  absorbBytes_keeps (·.dv) (fun _ _ _ _ _ => rfl) bs s
@[simp] theorem absorbBytes_err (bs : List Byte) (s : State) : (absorbBytes bs s).err = s.err :=
  absorbBytes_keeps (·.err) (fun _ _ _ _ _ => rfl) bs s
@[simp] theorem absorbBytes_resp (bs : List Byte) (s : State) : (absorbBytes bs s).resp = s.resp :=
  absorbBytes_keeps (·.resp) (fun _ _ _ _ _ => rfl) bs s
@[simp] theorem absorbBytes_launched (bs : List Byte) (s : State) : (absorbBytes bs s).launched = s.launched :=
  absorbBytes_keeps (·.launched) (fun _ _ _ _ _ => rfl) bs s
@[simp] theorem absorbBytes_everFailed (bs : List Byte) (s : State) : (absorbBytes bs s).everFailed = s.everFailed :=
  absorbBytes_keeps (·.everFailed) (fun _ _ _ _ _ => rfl) bs s
@[simp] theorem absorbBytes_port (bs : List Byte) (s : State) : (absorbBytes bs s).port = s.port :=
  absorbBytes_keeps (·.port) (fun _ _ _ _ _ => rfl) bs s
@[simp] theorem absorbBytes_responses (bs : List Byte) (s : State) : (absorbBytes bs s).responses = s.responses :=
  absorbBytes_keeps (·.responses) (fun _ _ _ _ _ => rfl) bs s

/-- Absorbing does not look at RESP. -/
theorem absorbByte_setResp (s : State) (b : Byte) (r : Word) :
    absorbByte { s with resp := r } b = { absorbByte s b with resp := r } := by
  unfold absorbByte
  change (if blockFull (appendByte b s) = true then _ else _) = _
  split <;> rfl

theorem absorbBytes_setResp (bs : List Byte) (s : State) (r : Word) :
    absorbBytes bs { s with resp := r } = { absorbBytes bs s with resp := r } := by
  induction bs generalizing s with
  | nil => rfl
  | cons b bs ih => rw [absorbBytes_cons, absorbByte_setResp, ih, absorbBytes_cons]

/-- STATUS does not show RESP. -/
@[simp] theorem statusResponse_setResp (s : State) (r : Word) :
    statusResponse { s with resp := r } = statusResponse s := rfl

/-- Lane i of the masked XOR. -/
@[simp] theorem getElem_xorBlock (rl : Nat) (block : Nat → Byte) (a : LaneFile) (i : Nat) (h : i < 25) :
    (xorBlock rl block a)[i] = if i < rl then a[i] ^^^ le64 (fun k => block (8 * i + k)) else a[i] := by
  simp [xorBlock, h]

/-- The multiplexer reads only bytes 0..8*RL-1 of the block. -/
theorem xorBlock_congr {rl : Nat} {b c : Nat → Byte} (a : LaneFile) (h : ∀ j, j < 8 * rl → b j = c j) :
    xorBlock rl b a = xorBlock rl c a := by
  ext i hi : 1
  simp only [getElem_xorBlock]
  split
  · rw [le64_congr fun k hk => h (8 * i + k) (by omega)]
  · rfl

/-- AbsorbBlock reads only bytes 0..BS-1 of the block. -/
theorem absorbBlock_congr {b c : Nat → Byte} (s : State) (h : ∀ j, j < blockSize s.var → b j = c j) :
    absorbBlock b s = absorbBlock c s := by
  unfold absorbBlock
  rw [xorBlock_congr s.lanes fun j hj => h j (by rw [← eight_mul_rateLanes]; exact hj)]

theorem pbufByte_of_lt (s : State) (j : Nat) (h : j < 144) : pbufByte s j = s.pbuf[j] := by
  simp [pbufByte, h]

theorem pbufByte_of_le (s : State) (j : Nat) (h : 144 ≤ j) : pbufByte s j = 0#8 := by
  simp [pbufByte, show ¬ j < 144 by omega]

/-- What appending a byte leaves at index j. -/
theorem pbufByte_appendByte (b : Byte) (s : State) (j : Nat) :
    pbufByte (appendByte b s) j = if j = s.plen.toNat ∧ j < 144 then b else pbufByte s j := by
  by_cases hj : j < 144
  · simp [pbufByte, hj, List.getElem_set, eq_comm]
  · simp [pbufByte, hj]

/-- PLEN after appending, while the buffer is not full. -/
theorem appendByte_plen_toNat (b : Byte) (s : State) (h : s.plen.toNat < 144) :
    (appendByte b s).plen.toNat = s.plen.toNat + 1 := by
  simp [BitVec.toNat_add]
  omega

/-- AbsorbByte below the boundary. -/
theorem absorbByte_below (s : State) (b : Byte) (hp : s.plen.toNat + 1 < blockSize s.var) (hb : s.plen.toNat < 144) :
    absorbByte s b = appendByte b s := by
  obtain ⟨_, h⟩ | ⟨hf, _⟩ := absorbByte_cases s b
  · exact h
  · simp only [blockFull, decide_eq_true_eq, appendByte_plen_toNat b s hb, appendByte_var] at hf
    omega

/-- AbsorbByte at the boundary. -/
theorem absorbByte_at (s : State) (b : Byte) (hp : s.plen.toNat + 1 = blockSize s.var) (hb : s.plen.toNat < 144) :
    absorbByte s b = flushBlock (appendByte b s) := by
  obtain ⟨hf, _⟩ | ⟨_, h⟩ := absorbByte_cases s b
  · simp only [blockFull, decide_eq_false_iff_not, appendByte_plen_toNat b s hb, appendByte_var] at hf
    omega
  · exact h

/-- AbsorbByte keeps PLEN below BS, and counts it modulo BS. -/
theorem absorbByte_plen (s : State) (b : Byte) (hv : s.var ≠ .unset) (hp : s.plen.toNat < blockSize s.var) :
    (absorbByte s b).plen.toNat = (s.plen.toNat + 1) % blockSize s.var := by
  have hbs := (blockSize_bounds s.var hv).2
  by_cases h : s.plen.toNat + 1 < blockSize s.var
  · rw [absorbByte_below s b h (by omega), appendByte_plen_toNat b s (by omega), Nat.mod_eq_of_lt h]
  · rw [absorbByte_at s b (by omega) (by omega)]
    simp [show s.plen.toNat + 1 = blockSize s.var by omega]

/-- Absorbing keeps PLEN below BS. -/
theorem absorbBytes_plen_lt (bs : List Byte) (s : State) (hv : s.var ≠ .unset) (hp : s.plen.toNat < blockSize s.var) :
    (absorbBytes bs s).plen.toNat < blockSize s.var := by
  induction bs generalizing s with
  | nil => exact hp
  | cons b bs ih =>
    have h := ih (absorbByte s b) (by simpa using hv)
      (by rw [absorbByte_plen s b hv hp, absorbByte_var]; exact Nat.mod_lt _ (by omega))
    simpa using h

/-- A cleared digest register reads 0 at every index. -/
theorem digByte_of_cleared {s : State} (h : s.dig = Vector.replicate 64 0#8) (k : Nat) : digByte s k = 0#8 := by
  unfold digByte
  rw [h, Vector.toList_replicate, List.getD_eq_getElem?_getD, List.getElem?_replicate]
  split <;> rfl

/-- What DIG holds at byte k. -/
theorem getElem_digestOf (v : Variant) (a : LaneFile) (k : Nat) (h : k < 64) :
    (digestOf v a)[k] = if k < digestLength v then byteOf (a[k / 8]'(by omega)) (k % 8) else 0x00#8 := by
  unfold digestOf
  simp [laneNumber_eq a (k / 8) (by omega)]

end Sys2Proof.Machine
end

