-- ==== Sys2Proof/Laws/Exec.lean ====
section
/-!
SUPPORT. What each command can do, said once: one inversion lemma per meaning, and one for a step.
-/

namespace Sys2Proof.Machine

/-- INIT fails with INVALID_VARIANT or creates an instance. -/
theorem execInit_cases (n : Nat) (s : State) :
    (variantOfNumber n = none ∧ execInit n s = .next (failWith .invalidVariant s)) ∨
    ∃ v, v ≠ .unset ∧ n = variantBits v ∧ execInit n s = .next (respondStatus (freshInstance v s)) := by
  unfold execInit
  split
  · exact .inl ⟨‹_›, rfl⟩
  · obtain ⟨hv, hn⟩ := variantOfNumber_eq_some.mp ‹_›
    exact .inr ⟨_, hv, hn, rfl⟩

/-- ABSORB fails with BAD_COUNT, fails with NOT_CONFIGURED, or absorbs its bytes. -/
theorem execAbsorb_cases (n : Nat) (d : Word) (s : State) :
    (8 < n ∧ execAbsorb n d s = .next (failWith .badCount s)) ∨
    (n ≤ 8 ∧ s.cfg = false ∧ execAbsorb n d s = .next (failWith .notConfigured s)) ∨
    (n ≤ 8 ∧ s.cfg = true ∧ execAbsorb n d s = .next (respondStatus (absorbBytes (messageBytes n d) s))) := by
  unfold execAbsorb
  split
  · exact .inl ⟨‹_›, rfl⟩
  · split
    · exact .inr (.inl ⟨by omega, ‹_›, rfl⟩)
    · exact .inr (.inr ⟨by omega, by simpa using ‹¬ s.cfg = false›, rfl⟩)

/-- FINALIZE fails with NOT_CONFIGURED, or latches the digest. -/
theorem execFinalize_cases (b : Bool) (s : State) :
    (s.cfg = false ∧ execFinalize b s = .next (failWith .notConfigured s)) ∨
    (s.cfg = true ∧ execFinalize b s =
      .next (respondStatus (releaseIf b (clearComputation (latchDigest (absorbBlock (padBlock s) s)))))) := by
  unfold execFinalize
  split
  · exact .inl ⟨‹_›, rfl⟩
  · exact .inr ⟨by simpa using ‹¬ s.cfg = false›, rfl⟩

/-- CLEAR keep fails with NOT_CONFIGURED when there is no instance; otherwise CLEAR clears. -/
theorem execClear_cases (b : Bool) (s : State) :
    (b = false ∧ s.cfg = false ∧ execClear b s = .next (failWith .notConfigured s)) ∨
    ((b = true ∨ s.cfg = true) ∧
      execClear b s = .next (respondStatus (releaseIf b (clearDigest (clearComputation s))))) := by
  unfold execClear
  split
  · exact .inl ⟨‹_ ∧ _›.1, ‹_ ∧ _›.2, rfl⟩
  · refine .inr ⟨?_, rfl⟩
    cases b <;> cases h : s.cfg <;> simp_all

/-- READ returns a register, or fails with BAD_REGISTER. -/
theorem execRead_cases (r : Nat) (s : State) :
    (∃ v, readRegister r s = some v ∧ execRead r s = .next (respond v s)) ∨
    (readRegister r s = none ∧ execRead r s = .next (failWith .badRegister s)) := by
  unfold execRead
  split
  · exact .inl ⟨_, ‹_›, rfl⟩
  · exact .inr ⟨‹_›, rfl⟩

/-- The reserved indexes are those the map of READ leaves out. -/
theorem readRegister_eq_none {r : Nat} {s : State} :
    readRegister r s = none ↔ (0x03 ≤ r ∧ r ≤ 0x07) ∨ 0x10 ≤ r := by
  unfold readRegister
  repeat' split
  all_goals simp
  all_goals omega

/-- Every command completes: no meaning faults or refuses. -/
theorem exec_answers (i : Instr) (s : State) : ∃ t, exec i s = .next t := by
  cases i with
  | init n => rcases execInit_cases n s with ⟨_, h⟩ | ⟨_, _, _, h⟩ <;> exact ⟨_, h⟩
  | absorb n d => rcases execAbsorb_cases n d s with ⟨_, h⟩ | ⟨_, _, h⟩ | ⟨_, _, h⟩ <;> exact ⟨_, h⟩
  | finalize b => rcases execFinalize_cases b s with ⟨_, h⟩ | ⟨_, h⟩ <;> exact ⟨_, h⟩
  | clear b => rcases execClear_cases b s with ⟨_, _, h⟩ | ⟨_, h⟩ <;> exact ⟨_, h⟩
  | read r => rcases execRead_cases r s with ⟨_, _, h⟩ | ⟨_, h⟩ <;> exact ⟨_, h⟩

/-- What a step that answers a next state did: nothing (idle), a hardware reset, or one command with its response. -/
theorem step_cases {s t : State} (h : step s = .next t) :
    (s.port = [] ∧ t = s) ∨
    (∃ m rest, s.port = m :: rest ∧ t = hardwareReset { s with port := rest }) ∨
    (∃ c rest u, s.port = .command c :: rest ∧ s.launched = true ∧
      runWord c { s with port := rest } = .next u ∧ t = recordResponse u) := by
  unfold step takeMove at h
  split at h
  · cases h
    exact .inl ⟨‹_›, rfl⟩
  · rename_i m rest hp
    cases m with
    | command c =>
      simp only [acceptMove] at h
      split at h
      · refine .inr (.inr ⟨c, rest, ?_⟩)
        cases hr : runWord c { s with port := rest } with
        | next u =>
          rw [hr] at h
          cases h
          exact ⟨u, hp, ‹_›, rfl, rfl⟩
        | fault r => rw [hr] at h; cases h
        | refused r => rw [hr] at h; cases h
      · cases h
    | reset =>
      cases h
      exact .inr (.inl ⟨_, rest, hp, rfl⟩)
    | resetDuring c =>
      cases h
      exact .inr (.inl ⟨_, rest, hp, rfl⟩)

/-- What one command word did: its instruction, or the failure of an ILLEGAL word. -/
theorem runWord_cases (c : Command) (s : State) :
    (∃ i, decode c = .instr i ∧ runWord c s = exec i s) ∨
    (∃ why, decode c = .illegal why ∧ runWord c s = .next (failWith .illegalCommand s)) := by
  unfold runWord
  split
  · exact .inl ⟨_, ‹_›, rfl⟩
  · exact .inr ⟨_, ‹_›, rfl⟩

end Sys2Proof.Machine
end

