-- ==== Sys2Proof/Laws/PerInstr.lean ====
section
/-!
SUPPORT. A fact about each instruction as syntax: the fixed bits of its encoding are those of its row of spec/opcode_table.json
(30_encoding.md R82 to R85), for every well-formed operand.
-/

namespace Sys2Proof.Laws.FixedBits

/-- The bits of a row that the table fixes (its mask) and their value (its match). -/
def row : Instr → CmdWord × CmdWord
  | .init _     => (0xFFFF0000#32, 0x10000000#32)
  | .absorb _ _ => (0xFFFFFFF0#32, 0x20000000#32)
  | .finalize _ => (0xFFFFFFFE#32, 0x30000000#32)
  | .clear _    => (0xFFFFFFFE#32, 0x40000000#32)
  | .read _     => (0xFFFFFF00#32, 0x50000000#32)

/-- A well-formed instruction's command word has the fixed bits of its row. -/
def Statement (i : Instr) : Prop := i.wellFormed = true → (encode i).cmd &&& (row i).1 = (row i).2

/-- An operand below 2^k has no bit at k or above, so a mask without the low k bits clears it. -/
theorem fixed_or_operand (mask value : CmdWord) (k v : Nat) (hv : v < 2 ^ k) (hm : ∀ j, j < k → mask.getLsbD j = false)
    (hf : value &&& mask = value) : (value ||| BitVec.ofNat 32 v) &&& mask = value := by
  have h0 : ∀ j, (BitVec.ofNat 32 v &&& mask).getLsbD j = false := by
    intro j
    rw [BitVec.getLsbD_and, BitVec.getLsbD_ofNat, Bool.and_eq_false_iff]
    by_cases hjk : j < k
    · exact .inr (hm j hjk)
    · rw [Nat.testBit_lt_two_pow (lt_of_lt_of_le hv (Nat.pow_le_pow_right (by omega) (Nat.le_of_not_lt hjk)))]
      simp
  have h2 : ∀ j, (value &&& mask).getLsbD j = value.getLsbD j := fun j => by rw [hf]
  apply BitVec.eq_of_getLsbD_eq
  intro j _
  specialize h0 j
  specialize h2 j
  rw [BitVec.getLsbD_and] at h0 h2
  rw [BitVec.getLsbD_and, BitVec.getLsbD_or, Bool.and_or_distrib_right, h0, h2, Bool.or_false]

theorem init (variant : Nat) : Statement (.init variant) := fun h =>
  fixed_or_operand 0xFFFF0000#32 0x10000000#32 16 variant (by simpa [Instr.wellFormed] using h) (by decide) (by decide)

theorem absorb (n : Nat) (data : Word) : Statement (.absorb n data) := fun h =>
  fixed_or_operand 0xFFFFFFF0#32 0x20000000#32 4 n (by simpa [Instr.wellFormed] using h) (by decide) (by decide)

theorem finalize (destroy : Bool) : Statement (.finalize destroy) := fun _ => by cases destroy <;> decide

theorem clear (destroy : Bool) : Statement (.clear destroy) := fun _ => by cases destroy <;> decide

theorem read (reg : Nat) : Statement (.read reg) := fun h =>
  fixed_or_operand 0xFFFFFF00#32 0x50000000#32 8 reg (by simpa [Instr.wellFormed] using h) (by decide) (by decide)

end Sys2Proof.Laws.FixedBits
end

