-- ==== Sys2Proof/Tests/Slice0.lean ====
section
/-!
SUPPORT. The model's own tests: the WellFormed smoke test, decoding of words written out from 30_encoding.md, single steps with
expected values from 95_test_vectors.md, and for each obligation with hypotheses a state and operands that meet them together.
-/

namespace Sys2Proof.Tests

open Sys2Proof.Machine

/-! ### WellFormed: an ill-formed term for each check, which the check refuses; the largest operand passes -/

theorem test_wellFormed_init : (Instr.init 65536).wellFormed = false ∧ (Instr.init 65535).wellFormed = true := by decide
theorem test_wellFormed_absorb : (Instr.absorb 16 0#64).wellFormed = false ∧ (Instr.absorb 15 0#64).wellFormed = true := by
  decide
theorem test_wellFormed_read : (Instr.read 256).wellFormed = false ∧ (Instr.read 255).wellFormed = true := by decide

/-! ### Decoding: each row's word written out field by field from its format (30_encoding.md R82 to R85) -/

/-- OP 0001, 12 reserved bits, VARIANT 0x0180. -/
theorem test_decode_init : decode ⟨0b0001#4 ++ 0b000000000000#12 ++ 0b0000000110000000#16, 0#64⟩ = .instr (.init 384) := by decide
/-- OP 0010, 24 reserved bits, N 0111. -/
theorem test_decode_absorb :
    decode ⟨0b0010#4 ++ 0b000000000000000000000000#24 ++ 0b0111#4, 0xAB#64⟩ = .instr (.absorb 7 0xAB#64) := by decide
/-- OP 0011, 27 reserved bits, D 1. -/
theorem test_decode_finalize : decode ⟨0b0011#4 ++ 0b000000000000000000000000000#27 ++ 0b1#1, 0#64⟩ = .instr (.finalize true) := by
  decide
/-- OP 0100, 27 reserved bits, D 1; the bit that tells CLEAR from FINALIZE is in OP. -/
theorem test_decode_clear : decode ⟨0b0100#4 ++ 0b000000000000000000000000000#27 ++ 0b1#1, 0#64⟩ = .instr (.clear true) := by
  decide
/-- OP 0101, 20 reserved bits, REG 0x0E. -/
theorem test_decode_read : decode ⟨0b0101#4 ++ 0b00000000000000000000#20 ++ 0b00001110#8, 0#64⟩ = .instr (.read 14) := by decide
/-- 95_test_vectors.md V6 and V5: reserved opcodes, and the lowest and highest reserved bits of each format. -/
theorem test_decode_illegal :
    decode ⟨0x00000000#32, 0#64⟩ = .illegal (.reservedOpcode 0x0#4) ∧
    decode ⟨0x60000000#32, 0#64⟩ = .illegal (.reservedOpcode 0x6#4) ∧
    decode ⟨0xF0000000#32, 0#64⟩ = .illegal (.reservedOpcode 0xF#4) ∧
    decode ⟨0x10010100#32, 0#64⟩ = .illegal (.reservedBit 0x1#4) ∧
    decode ⟨0x20000013#32, 0#64⟩ = .illegal (.reservedBit 0x2#4) ∧
    decode ⟨0x28000000#32, 0#64⟩ = .illegal (.reservedBit 0x2#4) ∧
    decode ⟨0x30000002#32, 0#64⟩ = .illegal (.reservedBit 0x3#4) ∧
    decode ⟨0x48000000#32, 0#64⟩ = .illegal (.reservedBit 0x4#4) ∧
    decode ⟨0x50000100#32, 0#64⟩ = .illegal (.reservedBit 0x5#4) := by decide

/-! ### Single steps -/

/-- The state of an outcome; the reset state where there is none. -/
def after (o : Host.Outcome State Fault Refusal) : State :=
  match o with
  | .next t    => t
  | .fault _   => State.reset
  | .refused _ => State.reset

/-- A live computation of variant `v` with `plen` zero bytes pending. -/
def pending (v : Variant) (plen : Nat) : State := { State.reset with cfg := true, var := v, plen := BitVec.ofNat 8 plen }

/-- V5.1: INIT 256 from reset responds 0x880005. -/
theorem test_init_response : (after (step (State.reset.withFetchWord 32 0x10000100))).resp = 0x880005#64 := by decide
/-- V5.1: INIT 0 on a live Keccak-256 computation with 3 bytes pending responds 0x880315. -/
theorem test_init_invalid_keeps_message : (after (exec (.init 0) (pending .v256 3))).resp = 0x880315#64 := by decide
/-- V3.1: ABSORB 3 after INIT 256 responds 0x880305 and stores 61 62 63, whatever DATA holds above. -/
theorem test_absorb_low_bytes_first :
    (after (exec (.absorb 3 0xFFFFFFFFFF636261#64) (pending .v256 0))).resp = 0x880305#64 ∧
    pbufByte (after (exec (.absorb 3 0xFFFFFFFFFF636261#64) (pending .v256 0))) 2 = 0x63#8 := by decide +kernel
/-- V3.2: Keccak-512 with 69 bytes pending: the boundary falls after byte 2 of an 8-byte ABSORB, PLEN is 5 and BYTES 72. -/
theorem test_absorb_boundary_inside :
    (after (exec (.absorb 8 0#64) (pending .v512 69))).plen = 5#8 ∧
    (after (exec (.absorb 8 0#64) (pending .v512 69))).bproc = 72#64 := by decide
/-- V1.1: DIGEST0 of Keccak-256("abc"), with "abc" pending. -/
theorem test_finalize_abc :
    digestWord (after (exec (.finalize false) (after (exec (.absorb 3 0x636261#64) (pending .v256 0))))) 0 =
      0x4FA945EA7A65034E#64 := by decide +kernel
/-- V4.3: FINALIZE destroy responds 0x2. -/
theorem test_finalize_destroy_response : (after (exec (.finalize true) (pending .v256 3))).resp = 0x2#64 := by decide
/-- V5.2: CLEAR keep with 5 bytes of Keccak-512 pending responds 0x48000D, CLEAR destroy 0. -/
theorem test_clear_response :
    (after (exec (.clear false) (pending .v512 5))).resp = 0x48000D#64 ∧
    (after (exec (.clear true) (pending .v512 5))).resp = 0#64 := by decide
/-- V5.2: CLEAR destroy is legal from reset, CLEAR keep responds 0x20 there. -/
theorem test_clear_from_reset :
    (after (exec (.clear true) State.reset)).resp = 0#64 ∧ (after (exec (.clear false) State.reset)).resp = 0x20#64 := by decide
/-- V5.3: READ VARIANT of a Keccak-384 computation is 0x180; READ 0x03 responds 0x50 from reset. -/
theorem test_read_variant_and_reserved :
    (after (exec (.read 0x01) (pending .v384 0))).resp = 0x180#64 ∧
    (after (exec (.read 0x03) State.reset)).resp = 0x50#64 := by decide
/-- 10_state.md R38: READ DIGEST1 has digest byte 8 lowest and byte 15 highest. -/
theorem test_read_digest_byte_order :
    (after (exec (.read 0x09) { State.reset with dig := Vector.ofFn fun k : Fin 64 => BitVec.ofNat 8 k.val })).resp =
      0x0F0E0D0C0B0A0908#64 := by decide
/-- V2.1: Theta of lanes[0] = 1. -/
theorem test_theta_worked : (theta (ofLanes fun i => if i = 0 then 1#64 else 0#64)).toList =
    (List.range 25).map fun i => if i ∈ [0, 1, 6, 11, 16, 21] then 1#64 else if i ∈ [4, 9, 14, 19, 24] then 2#64 else 0#64 := by
  decide +kernel
/-- V2.1: Pi of lanes[i] = i. -/
theorem test_pi_worked : (piStep (ofLanes fun i => BitVec.ofNat 64 i)).toList =
    [0, 6, 12, 18, 24, 3, 9, 10, 16, 22, 1, 7, 13, 19, 20, 4, 5, 11, 17, 23, 2, 8, 14, 15, 21].map (BitVec.ofNat 64) := by
  decide +kernel
/-- V2.1: Chi of the rows (1, 2, 4, 8, 0x10) and (0, 0, 0xF0F0, 0xFF00, 0). -/
theorem test_chi_worked :
    ((chi (ofLanes fun i => [1#64, 2#64, 4#64, 8#64, 0x10#64, 0#64, 0#64, 0xF0F0#64, 0xFF00#64].getD i 0#64)).toList).take 10 =
      [0x5#64, 0xA#64, 0x14#64, 0x9#64, 0x12#64, 0xF0F0#64, 0xF00#64, 0xF0F0#64, 0xFF00#64, 0#64] := by decide +kernel
/-- V2.1: Rho of every lane 1: lanes 1, 2 and 24. -/
theorem test_rho_worked : (rho (ofLanes fun _ => 1#64))[1] = 0x2#64 ∧ (rho (ofLanes fun _ => 1#64))[2] = 0x4000000000000000#64 ∧
    (rho (ofLanes fun _ => 1#64))[24] = 0x4000#64 := by decide +kernel

/-! ### Witnesses: every hypothesis of an obligation met at once -/

/-- A live computation is consistent while fewer than BS bytes are pending. -/
theorem pending_consistent (v : Variant) (p : Nat) (hv : v ≠ .unset) (hp : p < blockSize v) : Consistent (pending v p) := by
  have := (blockSize_bounds v hv).2
  refine ⟨⟨fun _ => ⟨hv, ?_⟩, nofun⟩, nofun, fun _ => rfl, fun _ k _ => digByte_of_cleared rfl k, fun h => absurd rfl h⟩
  show p % 256 < blockSize v
  omega

theorem witness_DecodeOfEncode : (Instr.init 65535).wellFormed = true ∧ (Instr.absorb 15 0#64).wellFormed = true ∧
    (Instr.finalize true).wellFormed = true ∧ (Instr.clear true).wellFormed = true ∧ (Instr.read 255).wellFormed = true := by decide
theorem witness_EncodeOfDecode : ∃ c i, decode c = .instr i := ⟨⟨0x20000009#32, 5#64⟩, .absorb 9 5#64, by decide⟩
theorem witness_IllegalCommandRaised : ∃ c why, decode c = .illegal why := ⟨⟨0x00000000#32, 0#64⟩, _, rfl⟩
theorem witness_AssemblerLines : assemble (.init 65535) ≠ none ∧ assemble (.init 65536) = none ∧
    assemble (.absorb 15 (2 ^ 64 - 1)) ≠ none ∧ assemble (.absorb 15 (2 ^ 64)) = none ∧ assemble (.absorb 16 0) = none ∧
    assemble (.finalize 1) ≠ none ∧ assemble (.finalize 2) = none ∧ assemble (.clear 1) ≠ none ∧ assemble (.clear 2) = none ∧
    assemble (.read 255) ≠ none ∧ assemble (.read 256) = none := by decide

/-- The reset state with one command pending before a reset. -/
def withCommand (s : State) (c : Command) : State := { s with port := [.command c, .reset] }

theorem witness_StepRunsDecodedInstruction : ∃ (s : State) (c : Command) (i : Instr) (rest : List HostMove),
    s.launched = true ∧ s.port = .command c :: rest ∧ decode c = .instr i :=
  ⟨withCommand State.reset ⟨0x20000003#32, 0x636261#64⟩, _, .absorb 3 0x636261#64, _, rfl, rfl, by decide⟩
theorem witness_StepFailsIllegalWord : ∃ (s : State) (c : Command) (why : IllegalWord) (rest : List HostMove),
    s.launched = true ∧ s.port = .command c :: rest ∧ decode c = .illegal why :=
  ⟨withCommand State.reset ⟨0x30000002#32, 0#64⟩, _, .reservedBit 0x3#4, _, rfl, rfl, by decide⟩
theorem witness_IdleKeepsState : State.reset.port = [] := rfl
theorem witness_HardwareResetState :
    (∃ (s : State) (m : HostMove) (rest : List HostMove), s.launched = false ∧ s.port = m :: rest ∧ m = .reset) ∧
    ∃ (s : State) (m : HostMove) (rest : List HostMove) (c : Command), s.port = m :: rest ∧ m = .resetDuring c :=
  ⟨⟨{ pending .v256 3 with launched := false, port := [.reset] }, _, _, rfl, rfl, rfl⟩,
    ⟨{ pending .v256 3 with port := [.resetDuring ⟨0x30000000#32, 0#64⟩] }, _, _, _, rfl, rfl⟩⟩
theorem witness_NoCommandBeforeReset : ∃ (s : State) (c : Command) (rest : List HostMove),
    s.launched = false ∧ s.port = .command c :: rest :=
  ⟨{ withCommand State.reset ⟨0x10000100#32, 0#64⟩ with launched := false }, _, _, rfl, rfl⟩
theorem witness_EveryCommandCompletes : ∃ (s : State) (c : Command) (rest : List HostMove),
    s.launched = true ∧ s.port = .command c :: rest := ⟨withCommand State.reset ⟨0xFFFFFFFF#32, 0#64⟩, _, _, rfl, rfl⟩
theorem witness_DataIgnoredExceptByAbsorb : ∃ cmd : CmdWord, cmd.extractLsb' 28 4 ≠ 0x2#4 := ⟨0x30000001#32, by decide⟩
theorem witness_PortRunsInOrder : ∃ (is : List Instr) (s : State), (∀ i ∈ is, i.wellFormed = true) ∧ s.launched = true :=
  ⟨[.init 256, .absorb 3 0x636261#64, .finalize false, .read 8], State.reset, by decide, rfl⟩
theorem witness_StepKeepsInvariant : ∃ s t : State, Inv s ∧ step s = .next t :=
  ⟨withCommand (pending .v512 71) ⟨0x20000001#32, 0#64⟩, _, fun _ => pending_consistent .v512 71 (by decide) (by decide), rfl⟩
theorem witness_BufferingBound : (∃ (s t : State) (i : Instr), Consistent s ∧ exec i s = .next t) ∧
    ∃ s : State, s.var ≠ .unset ∧ s.plen.toNat < blockSize s.var ∧ s.plen.toNat + 1 = blockSize s.var :=
  ⟨⟨pending .v224 143, _, .absorb 1 0#64, pending_consistent .v224 143 (by decide) (by decide), rfl⟩,
    ⟨pending .v224 143, by decide⟩⟩
theorem witness_OperandErrorsRaised :
    ((223 : Nat) ≠ 224 ∧ (223 : Nat) ≠ 256 ∧ (223 : Nat) ≠ 384 ∧ (223 : Nat) ≠ 512) ∧ (9 : Nat) ≤ 9 ∧
    ((0x03 : Nat) ≤ 0x03 ∧ (0x03 : Nat) ≤ 0x07) ∧ ((0x03 : Nat) ≤ 0x07 ∧ (0x07 : Nat) ≤ 0x07) ∧ (0x10 : Nat) ≤ 0x10 := by decide
theorem witness_InitSuccessInResponse : (∃ s t : State, exec (.init 512) s = .next t) ∧ ∃ s t : State, exec (.init 513) s = .next t :=
  ⟨⟨State.reset, _, rfl⟩, ⟨State.reset, _, rfl⟩⟩
theorem witness_AbsorbByteStep : (∃ s : State, s.plen.toNat < 144 ∧ s.var ≠ .unset ∧ s.plen.toNat < blockSize s.var ∧
      s.plen.toNat + 1 < blockSize s.var) ∧
    ∃ s : State, s.plen.toNat < 144 ∧ s.var ≠ .unset ∧ s.plen.toNat < blockSize s.var ∧ s.plen.toNat + 1 = blockSize s.var :=
  ⟨⟨pending .v224 142, by decide⟩, ⟨pending .v224 143, by decide⟩⟩
theorem witness_AbsorbWithinBlock : ∃ s : State, s.cfg = true ∧ s.var ≠ .unset ∧ s.plen.toNat + 8 < blockSize s.var :=
  ⟨pending .v256 127, by decide⟩
theorem witness_AbsorbAcrossBoundary :
    (∃ s : State, s.cfg = true ∧ s.var ≠ .unset ∧ s.plen.toNat < blockSize s.var ∧ blockSize s.var ≤ s.plen.toNat + 1) ∧
    ∃ s : State, s.cfg = true ∧ s.var ≠ .unset ∧ s.plen.toNat < blockSize s.var ∧ blockSize s.var ≤ s.plen.toNat + 8 ∧
      s.plen.toNat + 8 - blockSize s.var = 7 := ⟨⟨pending .v256 135, by decide⟩, ⟨pending .v256 135, by decide⟩⟩
theorem witness_AbsorbEqualsSingleBytes : 0 < 8 ∧ 8 ≤ 8 ∧ (pending .v512 69).cfg = true := by decide
theorem witness_StreamingEquivalence : ∃ (s : State) (p q : List (Nat × Word)), s.cfg = true ∧ (∀ c ∈ p, c.1 ≤ 8) ∧
    (∀ c ∈ q, c.1 ≤ 8) ∧ p ≠ [] ∧ q ≠ [] ∧ p ≠ q ∧ chunkBytes p = chunkBytes q :=
  ⟨pending .v256 0, [(3, 0x636261#64)], [(1, 0x61#64), (0, 0#64), (2, 0x6362#64)], by decide⟩
theorem witness_AbsorbIgnoresHighData : ∃ d e : Word, d ≠ e ∧ ∀ k, k < 8 * 3 → d.getLsbD k = e.getLsbD k :=
  ⟨0x636261#64, 0xFFFFFFFFFF636261#64, by decide⟩
theorem witness_ThreePhaseUpdateAgrees : ∃ s : State, s.var ≠ .unset ∧ s.plen.toNat < blockSize s.var :=
  ⟨pending .v384 103, by decide⟩
theorem witness_NotConfiguredRaised : State.reset.cfg = false ∧
    (∃ s t : State, s.cfg = true ∧ exec (.finalize true) s = .next t) ∧
    ∃ s t : State, s.cfg = true ∧ exec (.clear true) s = .next t :=
  ⟨rfl, ⟨pending .v256 0, _, rfl, rfl⟩, ⟨pending .v256 0, _, rfl, rfl⟩⟩
theorem witness_PadBlockBytes :
    (∃ s : State, s.var ≠ .unset ∧ s.plen.toNat < blockSize s.var ∧ 2 < s.plen.toNat ∧ s.plen.toNat + 1 < blockSize s.var ∧
      s.plen.toNat < 4 ∧ 4 < blockSize s.var - 1) ∧
    (∃ s : State, s.var ≠ .unset ∧ s.plen.toNat < blockSize s.var ∧ s.plen.toNat + 2 = blockSize s.var) ∧
    ∃ s : State, s.var ≠ .unset ∧ s.plen.toNat < blockSize s.var ∧ s.plen.toNat + 1 = blockSize s.var :=
  ⟨⟨pending .v512 3, by decide⟩, ⟨pending .v512 70, by decide⟩, ⟨pending .v512 71, by decide⟩⟩
theorem witness_FinalizeLatchesDigest : (pending .v256 135).cfg = true := rfl
theorem witness_DigestWordMethod : ∃ (s : State) (v : Variant) (a : LaneFile), v ≠ .unset ∧ s.dig = digestOf v a ∧
    3 = variantBits v / 64 := ⟨{ State.reset with dig := digestOf .v224 (ofLanes fun _ => 1#64) }, .v224, _, by decide, rfl, rfl⟩
theorem witness_DigestLengthFixed : ∃ s t : State, s.cfg = true ∧ exec (.finalize false) s = .next t ∧ digestLength s.var = 28 :=
  ⟨pending .v224 0, _, rfl, rfl, rfl⟩
theorem witness_ResetCleanliness : ∃ (s : State) (cs : List (Nat × Word)), s.cfg = true ∧ s.var ≠ .unset ∧ (∀ c ∈ cs, c.1 ≤ 8) :=
  ⟨pending .v512 5, [(8, 1#64), (0, 0#64)], by decide⟩
theorem witness_ComputesKeccakHash : ∃ (v : Variant) (cs : List (Nat × Word)), v ≠ .unset ∧ ∀ c ∈ cs, c.1 ≤ 8 :=
  ⟨.v224, [(8, 1#64), (3, 0x636261#64)], by decide⟩
theorem witness_ClearAbandonsMessage : ((true = true ∨ State.reset.cfg = true) ∧ State.reset.cfg = false) ∧
    (pending .v384 1).cfg = true := by decide
theorem witness_ReadDigestGivesDigest : Variant.v224 ≠ .unset := by decide
theorem witness_FailurePriority_illegal : ∃ why, decode ⟨0x28000009#32, 0#64⟩ = .illegal why := ⟨_, rfl⟩
theorem witness_FailurePriority : failureOf (.absorb 9 0#64) State.reset = some .badCount ∧
    failureOf (.absorb 8 0#64) State.reset = some .notConfigured ∧ failureOf (.absorb 8 0#64) (pending .v256 135) = none := by decide
theorem witness_ResponseRule_read : ∃ s t : State, exec (.read 0x0F) s = .next t ∧ failureOf (.read 0x0F) s = none :=
  ⟨State.reset, _, rfl, rfl⟩
theorem witness_ResponseRule_illegal : ∃ (c : Command) (why : IllegalWord) (s t : State),
    decode c = .illegal why ∧ runWord c s = .next t := ⟨⟨0x60000000#32, 0#64⟩, _, State.reset, _, rfl, rfl⟩
theorem witness_ResponseRule_status : ∃ s t : State, exec (.read 0x10) s = .next t ∧ ∀ r, Instr.read 0x10 = .read r →
    failureOf (.read 0x10) s ≠ none := ⟨State.reset, _, rfl, fun _ _ => by decide⟩
theorem witness_ErrWriters : (∃ s t : State, exec (.read 0x03) s = .next t ∧ failureOf (.read 0x03) s = some .badRegister ∧
      s.err = .noError) ∧
    (∃ s t : State, exec (.read 0x03) s = .next t ∧ failureOf (.read 0x03) s = some .badRegister ∧ s.err = .badCount) ∧
    (∃ s t : State, exec (.init 256) s = .next t ∧ failureOf (.init 256) s = none ∧ s.err = .badCount) ∧
    (∃ (c : Command) (why : IllegalWord) (s t : State), decode c = .illegal why ∧ runWord c s = .next t) ∧
    (∃ (s t : State) (rest : List HostMove), s.port = .reset :: rest ∧ step s = .next t ∧ s.err = .badCount) ∧
    ∃ s t : State, s.port = [] ∧ step s = .next t :=
  ⟨⟨State.reset, _, rfl, rfl, rfl⟩, ⟨{ State.reset with err := .badCount, everFailed := true }, _, rfl, rfl, rfl⟩,
    ⟨{ State.reset with err := .badCount, everFailed := true }, _, rfl, rfl, rfl⟩,
    ⟨⟨0x60000000#32, 0#64⟩, _, State.reset, _, rfl, rfl⟩,
    ⟨{ State.reset with err := .badCount, everFailed := true, port := [.reset] }, _, _, rfl, rfl, rfl⟩,
    ⟨State.reset, _, rfl, rfl⟩⟩
/-- A live computation whose lanes are not 0. -/
def absorbed (v : Variant) : State := { pending v 3 with lanes := ofLanes fun _ => 1#64 }

theorem absorbed_consistent (v : Variant) (hv : v ≠ .unset) : Consistent (absorbed v) :=
  have h := pending_consistent v 3 hv (by have := le_blockSize v; omega)
  ⟨h.1, nofun, h.2.2⟩

theorem witness_LanesWriters_clearing :
    (∃ s t : State, Consistent s ∧ exec (.init 512) s = .next t ∧ t.lanes ≠ s.lanes) ∧
    (∃ s t : State, Consistent s ∧ exec (.finalize true) s = .next t ∧ t.lanes ≠ s.lanes) ∧
    ∃ s t : State, Consistent s ∧ exec (.clear false) s = .next t ∧ t.lanes ≠ s.lanes :=
  have h := absorbed_consistent .v256 (by decide)
  ⟨⟨absorbed .v256, _, h, rfl, by decide⟩, ⟨absorbed .v256, _, h, rfl, by decide⟩, ⟨absorbed .v256, _, h, rfl, by decide⟩⟩
/-- The last byte of a block: one permutation of the all-zero state, which is not 0 (V2.2). -/
theorem witness_LanesWriters_absorb : ∃ s t : State, Consistent s ∧ exec (.absorb 1 0#64) s = .next t ∧ t.lanes ≠ s.lanes :=
  ⟨pending .v256 135, _, pending_consistent .v256 135 (by decide) (by decide), rfl, by decide +kernel⟩
theorem witness_ConfigurationWriters : (∃ s t : State, exec (.init 256) s = .next t ∧ t.cfg ≠ s.cfg) ∧
    ∃ s t : State, exec (.finalize true) s = .next t ∧ t.var ≠ s.var :=
  ⟨⟨State.reset, _, rfl, by decide⟩, ⟨pending .v256 0, _, rfl, by decide⟩⟩
theorem witness_DigestWriters : (∃ s t : State, exec (.finalize false) s = .next t ∧ t.dv ≠ s.dv) ∧
    ∃ s t : State, exec (.clear false) s = .next t ∧ t.dv ≠ s.dv :=
  ⟨⟨pending .v256 0, _, rfl, by decide⟩, ⟨{ pending .v256 0 with dv := true }, _, rfl, by decide⟩⟩
theorem witness_SecretSeenOnlyByDigest : ∃ (s u t : State), SameUpToSecret s u ∧ s.lanes ≠ u.lanes ∧
    (∀ b, Instr.absorb 8 0#64 ≠ .finalize b) ∧ exec (.absorb 8 0#64) s = .next t :=
  ⟨pending .v256 130, { pending .v256 130 with lanes := ofLanes fun _ => 1#64 }, _, rfl, by decide, nofun, rfl⟩
theorem witness_StaleBytesUnobservable : ∃ (s u t : State), SameUpToStaleBytes s u ∧ s.pbuf ≠ u.pbuf ∧
    exec (.finalize false) s = .next t :=
  ⟨pending .v256 3, { pending .v256 3 with pbuf := (Vector.replicate 144 0#8).set 3 0xFF#8 }, _, ⟨rfl, by decide +kernel⟩, by decide +kernel, rfl⟩
theorem witness_UpdateAbsorbsBytes : (pending .v256 0).cfg = true := rfl

end Sys2Proof.Tests
end

section
/-!
PROOFS. The two ways a command can complete: it fails with the code `failureOf` names, or it succeeds with the effect of its
kind. Then what each does to ERR (10_state.md R31).
-/

namespace Sys2Proof.Machine

/-- The success of a command: the state it is run in, with what a success of its kind needs, and the state it leaves. -/
inductive Succeeds : Instr → State → State → Prop where
  | init (v : Variant) (s : State) (hv : v ≠ .unset) :
      Succeeds (.init (variantBits v)) s (respondStatus (freshInstance v s))
  | absorb (n : Nat) (d : Word) (s : State) (hn : n ≤ 8) (hc : s.cfg = true) :
      Succeeds (.absorb n d) s (respondStatus (absorbBytes (messageBytes n d) s))
  | finalize (b : Bool) (s : State) (hc : s.cfg = true) :
      Succeeds (.finalize b) s
        (respondStatus (releaseIf b (clearComputation (latchDigest (absorbBlock (padBlock s) s)))))
  | clear (b : Bool) (s : State) (hc : b = true ∨ s.cfg = true) :
      Succeeds (.clear b) s (respondStatus (releaseIf b (clearDigest (clearComputation s))))
  | read (r : Nat) (s : State) (w : Word) (hr : readRegister r s = some w) :
      Succeeds (.read r) s (respond w s)

/-- INIT fails exactly on the numbers that name no variant. -/
theorem failureOf_init (n : Nat) (s : State) :
    failureOf (.init n) s = if variantOfNumber n = none then some .invalidVariant else none := by
  simp only [failureOf, variantOfNumber_eq_none, ← not_or, ite_not]

/-- READ fails exactly on the indexes that its register map leaves out. -/
theorem failureOf_read (r : Nat) (s : State) :
    failureOf (.read r) s = if readRegister r s = none then some .badRegister else none := by
  have reserved_iff : (0x03 ≤ r ∧ r ≤ 0x07 ∨ 0x10 ≤ r) ↔ ¬ (r ≤ 0x02 ∨ (0x08 ≤ r ∧ r ≤ 0x0F)) := by omega
  simp only [failureOf, readRegister_eq_none, reserved_iff, ite_not]

/-- A command fails with the code that `failureOf` names, or `failureOf` names none and it succeeds
(60_exceptions.md R207). -/
theorem exec_cases (i : Instr) (s : State) :
    (∃ code, failureOf i s = some code ∧ exec i s = .next (failWith code s)) ∨
    (failureOf i s = none ∧ ∃ t, exec i s = .next t ∧ Succeeds i s t) := by
  cases i with
  | init n =>
    rcases execInit_cases n s with ⟨hn, he⟩ | ⟨v, hv, rfl, he⟩
    · exact .inl ⟨_, by simp [failureOf_init, hn], he⟩
    · have hn : variantOfNumber (variantBits v) = some v := variantOfNumber_eq_some.mpr ⟨hv, rfl⟩
      exact .inr ⟨by simp [failureOf_init, hn], _, he, .init v s hv⟩
  | absorb n d =>
    rcases execAbsorb_cases n d s with ⟨hn, he⟩ | ⟨hn, hc, he⟩ | ⟨hn, hc, he⟩
    · exact .inl ⟨_, if_pos hn, he⟩
    · exact .inl ⟨_, by simp [failureOf, hc]; omega, he⟩
    · exact .inr ⟨by simp [failureOf, hc]; omega, _, he, .absorb n d s hn hc⟩
  | finalize b =>
    rcases execFinalize_cases b s with ⟨hc, he⟩ | ⟨hc, he⟩
    · exact .inl ⟨_, if_pos hc, he⟩
    · exact .inr ⟨by simp [failureOf, hc], _, he, .finalize b s hc⟩
  | clear b =>
    rcases execClear_cases b s with ⟨hb, hc, he⟩ | ⟨hbc, he⟩
    · exact .inl ⟨_, if_pos ⟨hb, hc⟩, he⟩
    · exact .inr ⟨by rcases hbc with h | h <;> simp [failureOf, h], _, he, .clear b s hbc⟩
  | read r =>
    rcases execRead_cases r s with ⟨w, hr, he⟩ | ⟨hr, he⟩
    · exact .inr ⟨by simp [failureOf_read, hr], _, he, .read r s w hr⟩
    · exact .inl ⟨_, by simp [failureOf_read, hr], he⟩

/-- A command for which `failureOf` names a code does what fail(code) does, and nothing else. -/
theorem eq_failWith_of_failureOf {i : Instr} {s t : State} {code : ErrorCode} (hf : failureOf i s = some code)
    (he : exec i s = .next t) : t = failWith code s := by
  rcases exec_cases i s with ⟨code', hf', he'⟩ | ⟨hf', -⟩
  · obtain rfl : code' = code := Option.some.inj (hf'.symm.trans hf)
    rw [he'] at he
    exact (Host.Outcome.next.inj he).symm
  · rw [hf'] at hf
    cases hf

/-- A command for which `failureOf` names no code succeeds. -/
theorem succeeds_of_failureOf {i : Instr} {s t : State} (hf : failureOf i s = none) (he : exec i s = .next t) :
    Succeeds i s t := by
  rcases exec_cases i s with ⟨code, hf', -⟩ | ⟨-, u, he', hu⟩
  · rw [hf'] at hf
    cases hf
  · rw [he'] at he
    exact Host.Outcome.next.inj he ▸ hu

/-- An ILLEGAL word does what fail(ILLEGAL_COMMAND) does, and nothing else (60_exceptions.md R202). -/
theorem eq_failWith_of_illegal {c : Command} {why : IllegalWord} {s t : State} (hd : decode c = .illegal why)
    (hr : runWord c s = .next t) : t = failWith .illegalCommand s := by
  rcases runWord_cases c s with ⟨i, hd', -⟩ | ⟨_, -, hr'⟩
  · rw [hd'] at hd
    cases hd
  · rw [hr'] at hr
    exact (Host.Outcome.next.inj hr).symm

/-- A successful INIT clears ERR. -/
theorem Succeeds.err_of_init {n : Nat} {s t : State} (h : Succeeds (.init n) s t) : t.err = .noError := by
  cases h with
  | init v s hv => simp

/-- A successful command of another kind keeps ERR. -/
theorem Succeeds.err_of_ne_init {i : Instr} {s t : State} (h : Succeeds i s t) (hi : ∀ v, i ≠ .init v) :
    t.err = s.err := by
  cases h with
  | init v s hv => exact absurd rfl (hi _)
  | absorb n d s hn hc => simp
  | finalize b s hc => simp
  | clear b s hc => simp
  | read r s w hr => simp

/-- A step whose next move is the hardware reset resets the core (70_reset_and_hazards.md R230). -/
theorem step_of_reset {s : State} {rest : List HostMove} (hp : s.port = .reset :: rest) :
    step s = .next (hardwareReset { s with port := rest }) := by
  simp only [step, takeMove, hp, acceptMove]

/-- A step with no move left keeps the state (60_exceptions.md R216). -/
theorem step_of_idle {s : State} (hp : s.port = []) : step s = .next s := by
  simp only [step, takeMove, hp]

/-- Settles O52: a failure is `failWith`, which keeps the first error; of the successes only INIT writes ERR; and a step whose
next move is a reset, or that has no move, does what the port says. -/
theorem errWriters : Obligations.ErrWriters := by
  unfold Obligations.ErrWriters
  refine ⟨fun i s t he => ⟨fun code hf => ?_, fun hf => ?_⟩, fun c why s t hd hr => ?_, fun s t rest hp h => ?_,
    fun s t hp h => ?_⟩
  · rw [eq_failWith_of_failureOf hf he, failWith_err]
  · have hs := succeeds_of_failureOf hf he
    refine ⟨?_, hs.err_of_ne_init⟩
    rintro ⟨n, rfl⟩
    exact hs.err_of_init
  · rw [eq_failWith_of_illegal hd hr, failWith_err]
  · rw [step_of_reset hp] at h
    exact Host.Outcome.next.inj h ▸ rfl
  · rw [step_of_idle hp] at h
    exact Host.Outcome.next.inj h ▸ rfl

end Sys2Proof.Machine
end

section
/-!
PROOFS. What RESP holds after a command (30_encoding.md R81): the register that a successful READ names, and STATUS after the
effect of every other command and of every failure.
-/

namespace Sys2Proof.Machine

/-- The register that a legal index of READ names (10_state.md R34). -/
theorem eq_register_of_readRegister {r : Nat} {s : State} {w : Word} (h : readRegister r s = some w) :
    w = if r = 0x00 then statusResponse s else if r = 0x01 then BitVec.ofNat 64 (variantBits s.var)
      else if r = 0x02 then s.bproc else digestWord s (r - 0x08) := by
  unfold readRegister at h
  split_ifs at h ⊢ <;> exact (Option.some.inj h).symm

/-- Responding with STATUS leaves in RESP the STATUS of the state it leaves, since STATUS does not show RESP. -/
theorem respondStatus_resp_eq_self (s : State) : (respondStatus s).resp = statusResponse (respondStatus s) :=
  (statusResponse_setResp s (statusResponse s)).symm

/-- A failure responds with STATUS, the error it recorded included. -/
theorem failWith_resp_eq_self (code : ErrorCode) (s : State) :
    (failWith code s).resp = statusResponse (failWith code s) :=
  respondStatus_resp_eq_self (recordError code s)

/-- A successful READ responds with what the register map has at its index. -/
theorem Succeeds.resp_of_read {r : Nat} {s t : State} (h : Succeeds (.read r) s t) :
    readRegister r s = some t.resp := by
  cases h with
  | read r s w hr => exact hr

/-- A successful command of another kind responds with STATUS after its effect. -/
theorem Succeeds.resp_of_ne_read {i : Instr} {s t : State} (h : Succeeds i s t) (hi : ∀ r, i ≠ .read r) :
    t.resp = statusResponse t := by
  cases h with
  | init v s hv => exact respondStatus_resp_eq_self _
  | absorb n d s hn hc => exact respondStatus_resp_eq_self _
  | finalize b s hc => exact respondStatus_resp_eq_self _
  | clear b s hc => exact respondStatus_resp_eq_self _
  | read r s w hr => exact absurd rfl (hi r)

/-- Settles O51: a success ends in `respond` with the register for READ and in `respondStatus` for the other kinds, and a
failure, of a command or of an ILLEGAL word, is `failWith`, which ends in `respondStatus`. -/
theorem responseRule : Obligations.ResponseRule := by
  unfold Obligations.ResponseRule
  refine ⟨fun r s t he hf => ?_, fun i s t he hi => ?_, fun c why s t hd hr => ?_⟩
  · exact eq_register_of_readRegister (succeeds_of_failureOf hf he).resp_of_read
  · cases hf : failureOf i s with
    | some code =>
      rw [eq_failWith_of_failureOf hf he]
      exact failWith_resp_eq_self code s
    | none => exact (succeeds_of_failureOf hf he).resp_of_ne_read fun r hr => hi r hr hf
  · rw [eq_failWith_of_illegal hd hr]
    exact failWith_resp_eq_self .illegalCommand s

end Sys2Proof.Machine
end

section
/-!
PROOFS. The step mappings lane by lane (40_permutation.md section 4): what a tabulated lane file holds at (x,y), and from it what
Rho and Chi write there.
-/

namespace Sys2Proof.Machine

/-- The lane at (x,y) of a tabulated grid. -/
theorem getElem_ofGrid_val (f : Nat → Nat → Word) (x y : Fin 5) :
    (ofGrid f)[x.val + 5 * y.val] = f x.val y.val := by
  have hx : (x.val + 5 * y.val) % 5 = x.val := by omega
  have hy : (x.val + 5 * y.val) / 5 = y.val := by omega
  rw [getElem_ofGrid, hx, hy]

/-- A[x,y] of indices in range, as `Fin 5` has them. -/
theorem laneAt_val (a : LaneFile) (x y : Fin 5) : laneAt a x.val y.val = a[x.val + 5 * y.val] :=
  laneAt_of_lt a x.val y.val x.isLt y.isLt

/-- The lane k columns to the right: the addition of `Fin 5` is the one mod 5 by which A[x,y] reads. -/
theorem laneAt_val_add (a : LaneFile) (x k y : Fin 5) :
    laneAt a (x.val + k.val) y.val = a[(x + k).val + 5 * y.val] := by
  rw [← laneAt_val, Fin.val_add]
  simp only [laneAt, Nat.mod_mod]

/-- Every offset is an amount by which a 64-bit lane can be rotated. -/
theorem rotationOffset_lt (x y : Fin 5) : rotationOffset x.val y.val < 64 := by
  decide +revert

/-- Only lane 0 has offset 0, and no offset is 63 (40_permutation.md R115). -/
theorem rotationOffset_bounds (x y : Fin 5) (h : (x.val, y.val) ≠ (0, 0)) :
    1 ≤ rotationOffset x.val y.val ∧ rotationOffset x.val y.val ≤ 62 := by
  decide +revert

/-- The lane at (x,y) after Rho. -/
theorem getElem_rho (a : LaneFile) (x y : Fin 5) :
    (rho a)[x.val + 5 * y.val] = a[x.val + 5 * y.val].rotateLeft (rotationOffset x.val y.val) := by
  unfold rho
  rw [getElem_ofGrid_val, laneAt_val, rotl64_eq_rotateLeft _ _ (rotationOffset_lt x y)]

/-- Rho keeps lane 0, whose offset is 0. -/
theorem rho_lane_zero (a : LaneFile) : (rho a)[0] = a[0] :=
  calc (rho a)[0] = a[0].rotateLeft 0 := getElem_rho a 0 0
    _ = rotl64 a[0] 0 := (rotl64_eq_rotateLeft a[0] 0 (by decide)).symm
    _ = a[0] := rfl

/-- The lane at (x,y) after Chi. -/
theorem getElem_chi (a : LaneFile) (x y : Fin 5) :
    (chi a)[x.val + 5 * y.val] =
      a[x.val + 5 * y.val] ^^^ (~~~a[(x + 1).val + 5 * y.val] &&& a[(x + 2).val + 5 * y.val]) := by
  have next_lane : laneAt a (x.val + 1) y.val = a[(x + 1).val + 5 * y.val] := laneAt_val_add a x 1 y
  have lane_after : laneAt a (x.val + 2) y.val = a[(x + 2).val + 5 * y.val] := laneAt_val_add a x 2 y
  unfold chi
  rw [getElem_ofGrid_val, laneAt_val, next_lane, lane_after]

/-- Settles O31: Rho is tabulated lane by lane with offsets below 64, where ROTL64 is the library's rotation; the offset of lane
0 is 0, and the table bounds the others. -/
theorem rhoRotatesLanes : Obligations.RhoRotatesLanes := by
  unfold Obligations.RhoRotatesLanes
  exact fun a => ⟨getElem_rho a, rho_lane_zero a, rotationOffset_bounds⟩

/-- Settles O34: Chi is tabulated from the lane file it is given, so all three lanes it reads are those from before the step. -/
theorem chiRows : Obligations.ChiRows := by
  unfold Obligations.ChiRows
  exact getElem_chi

end Sys2Proof.Machine
end

section
/-!
PROOFS. The two operations that ABSORB is made of, as whole next states (41_absorb.md R140 to R142): AbsorbBlock writes the lanes
through the rate-masking multiplexer, and AbsorbByte appends a byte and flushes the block it completes.
-/

namespace Sys2Proof.Machine

/-- A rate lane passes the multiplexer with each of its eight bytes XORed with the block's byte of the same index. -/
theorem byteOf_xorBlock_rate {rl : Nat} (block : Nat → Byte) (a : LaneFile) {i k : Nat} (hi : i < 25) (hr : i < rl)
    (hk : k < 8) : byteOf (xorBlock rl block a)[i] k = byteOf a[i] k ^^^ block (8 * i + k) :=
  calc byteOf (xorBlock rl block a)[i] k
      = byteOf (a[i] ^^^ le64 fun k => block (8 * i + k)) k := by rw [getElem_xorBlock, if_pos hr]
    _ = byteOf a[i] k ^^^ byteOf (le64 fun k => block (8 * i + k)) k := byteOf_xor _ _ k
    _ = byteOf a[i] k ^^^ block (8 * i + k) := by rw [byteOf_le64 _ k hk]

/-- A capacity lane passes the multiplexer unchanged. -/
theorem getElem_xorBlock_capacity {rl : Nat} (block : Nat → Byte) (a : LaneFile) {i : Nat} (hi : i < 25) (hc : rl ≤ i) :
    (xorBlock rl block a)[i] = a[i] := by
  rw [getElem_xorBlock, if_neg hc.not_gt]

/-- Settles O21: AbsorbBlock permutes the multiplexer's output, whose rate lanes are fixed byte by byte and whose capacity lanes
are those of the state. -/
theorem absorbBlockMasksRate : Obligations.AbsorbBlockMasksRate := by
  unfold Obligations.AbsorbBlockMasksRate
  refine ⟨by decide, by decide, fun s block => ⟨xorBlock (rateLanes s.var) block s.lanes, rfl, fun i hi => ⟨?_, ?_⟩⟩⟩
  · exact fun hr k hk => byteOf_xorBlock_rate block s.lanes hi hr hk
  · exact getElem_xorBlock_capacity block s.lanes hi

/-- Appending while PBUF has room, as a whole next state: the store at PLEN is in bounds. -/
theorem appendByte_of_lt (b : Byte) (s : State) (h : s.plen.toNat < 144) :
    appendByte b s = { s with pbuf := s.pbuf.set s.plen.toNat b, plen := s.plen + 1#8 } := by
  have stored : s.pbuf.setIfInBounds s.plen.toNat b = s.pbuf.set s.plen.toNat b := by
    ext j hj : 1
    rw [Vector.getElem_setIfInBounds hj, Vector.getElem_set]
  rw [appendByte, stored]

/-- PBUF[j], read through the vector's own lookup. -/
theorem pbufByte_eq_getElem? (s : State) : pbufByte s = fun j => s.pbuf[j]?.getD 0#8 := by
  funext j
  rw [pbufByte, List.getD_eq_getElem?_getD, Vector.getElem?_toList]

/-- Settles O20: below the boundary AbsorbByte only appends, and at the boundary it flushes the buffer that the appended byte
has filled. -/
theorem absorbByteStep : Obligations.AbsorbByteStep := by
  unfold Obligations.AbsorbByteStep
  intro s b h hv hp filled
  refine ⟨fun below => ?_, fun boundary => ?_⟩
  · rw [absorbByte_below s b below h, appendByte_of_lt b s h]
  · rw [absorbByte_at s b boundary h, appendByte_of_lt b s h, flushBlock, pbufByte_eq_getElem?]
    rfl

end Sys2Proof.Machine
end

section
/-!
PROOFS. The decoder against the encoder and the opcode table (30_encoding.md R86 to R90). Every field of a command word is a run
of neighbouring bits, so the rows, their masks and their operands are all compared as quotients and remainders of the number of
the word.
-/

namespace Sys2Proof.Machine

/-! ### Fields of a command word as numbers -/

/-- Masking with the bits from k up to m keeps that part of the number. -/
theorem toNat_and_bitRange {x mask : CmdWord} (k m : Nat)
    (hmask : ∀ j, j < 32 → (mask.getLsbD j ↔ k ≤ j ∧ j < m)) :
    (x &&& mask).toNat = x.toNat % 2 ^ m / 2 ^ k * 2 ^ k := by
  apply Nat.eq_of_testBit_eq
  intro j
  rw [BitVec.testBit_toNat, BitVec.getLsbD_and, Nat.testBit_mul_two_pow, Nat.testBit_div_two_pow,
    Nat.testBit_mod_two_pow, BitVec.testBit_toNat, Bool.eq_iff_iff]
  simp only [Bool.and_eq_true, decide_eq_true_eq]
  by_cases hk : k ≤ j
  · rw [Nat.sub_add_cancel hk]
    by_cases hj : j < 32
    · simp only [hmask j hj, hk, true_and, and_comm]
    · simp [BitVec.getLsbD_of_ge x j (by omega)]
  · have outside : mask.getLsbD j ≠ true := fun h => hk ((hmask j (BitVec.lt_of_getLsbD h)).mp h).1
    simp [outside, hk]

/-- A field of a word is a quotient and a remainder of its number. -/
theorem toNat_field (x : CmdWord) (lo len : Nat) : (x.extractLsb' lo len).toNat = x.toNat / 2 ^ lo % 2 ^ len := by
  rw [BitVec.extractLsb'_toNat, Nat.shiftRight_eq_div_pow]

theorem opcodeOf_eq_iff (cmd : CmdWord) (op : BitVec 4) : opcodeOf cmd = op ↔ cmd.toNat / 2 ^ 28 = op.toNat := by
  have := cmd.isLt
  rw [← BitVec.toNat_inj, opcodeOf, toNat_field, Nat.mod_eq_of_lt (by omega)]

theorem variantField_eq (cmd : CmdWord) : variantField cmd = cmd.toNat % 2 ^ 16 := by
  rw [variantField, toNat_field, pow_zero, Nat.div_one]

theorem countField_eq (cmd : CmdWord) : countField cmd = cmd.toNat % 2 ^ 4 := by
  rw [countField, toNat_field, pow_zero, Nat.div_one]

theorem regField_eq (cmd : CmdWord) : regField cmd = cmd.toNat % 2 ^ 8 := by
  rw [regField, toNat_field, pow_zero, Nat.div_one]

theorem destroyField_eq (cmd : CmdWord) : destroyField cmd = decide (cmd.toNat % 2 = 1) := by
  rw [destroyField, ← BitVec.testBit_toNat, Nat.testBit_zero]

/-- A word matches a row (opcode `op`, operand in the low `k` bits) exactly when its opcode is the row's and its reserved bits
are 0: the two forms in which 30_encoding.md R87 tests it. -/
theorem and_mask_eq_match_iff {cmd reserved mask value : CmdWord} (op : BitVec 4) (k : Nat) (hk : k ≤ 28)
    (hreserved : ∀ j, j < 32 → (reserved.getLsbD j ↔ k ≤ j ∧ j < 28))
    (hmask : ∀ j, j < 32 → (mask.getLsbD j ↔ k ≤ j ∧ j < 32))
    (hvalue : value = op ++ 0#28) :
    cmd &&& mask = value ↔ opcodeOf cmd = op ∧ cmd &&& reserved = 0#32 := by
  have split_power : 2 ^ 28 = 2 ^ k * 2 ^ (28 - k) := by rw [← pow_add, Nat.add_sub_cancel' hk]
  have hk0 : 0 < 2 ^ k := Nat.two_pow_pos k
  have hd0 : 0 < 2 ^ (28 - k) := Nat.two_pow_pos (28 - k)
  rw [hvalue, opcodeOf_eq_iff, ← BitVec.toNat_inj, ← BitVec.toNat_inj, toNat_and_bitRange k 32 hmask,
    toNat_and_bitRange k 28 hreserved, Nat.mod_eq_of_lt cmd.isLt]
  have match_number : (op ++ 0#28).toNat = op.toNat * 2 ^ (28 - k) * 2 ^ k := by
    rw [BitVec.toNat_append, BitVec.toNat_zero, Nat.or_zero, Nat.shiftLeft_eq, split_power]
    ring
  rw [match_number, split_power, Nat.mod_mul_right_div_self, ← Nat.div_div_eq_div_mul, BitVec.toNat_zero,
    Nat.mul_left_inj hk0.ne', Nat.mul_eq_zero, or_iff_left hk0.ne']
  generalize cmd.toNat / 2 ^ k = y
  constructor
  · rintro rfl
    exact ⟨Nat.mul_div_cancel _ hd0, Nat.mul_mod_left _ _⟩
  · rintro ⟨hq, hr⟩
    rw [← hq, Nat.div_mul_cancel (Nat.dvd_of_mod_eq_zero hr)]

/-- The reserved bits of a row are 0 exactly when the field they form is. -/
theorem and_reserved_eq_zero_iff {cmd reserved : CmdWord} (k : Nat) (hk : k ≤ 28)
    (hreserved : ∀ j, j < 32 → (reserved.getLsbD j ↔ k ≤ j ∧ j < 28)) :
    cmd &&& reserved = 0#32 ↔ cmd.extractLsb' k (28 - k) = 0#(28 - k) := by
  have split_power : 2 ^ 28 = 2 ^ k * 2 ^ (28 - k) := by rw [← pow_add, Nat.add_sub_cancel' hk]
  rw [← BitVec.toNat_inj, ← BitVec.toNat_inj, toNat_and_bitRange k 28 hreserved, toNat_field, split_power,
    Nat.mod_mul_right_div_self, BitVec.toNat_zero, BitVec.toNat_zero, Nat.mul_eq_zero,
    or_iff_left (Nat.two_pow_pos k).ne']

/-! ### The rows -/

/-- The instruction of `i`'s row with the operands that a transaction holds (30_encoding.md R86). -/
def readAs (i : Instr) (c : Command) : Instr :=
  match i with
  | .init _     => .init (variantField c.cmd)
  | .absorb _ _ => .absorb (countField c.cmd) c.data
  | .finalize _ => .finalize (destroyField c.cmd)
  | .clear _    => .clear (destroyField c.cmd)
  | .read _     => .read (regField c.cmd)

/-- OP and the mask of the reserved bits of `i`'s row (30_encoding.md R87). -/
def opcodeAndReserved : Instr → BitVec 4 × CmdWord
  | .init _     => (0x1#4, 0x0FFF0000#32)
  | .absorb _ _ => (0x2#4, 0x0FFFFFF0#32)
  | .finalize _ => (0x3#4, 0x0FFFFFFE#32)
  | .clear _    => (0x4#4, 0x0FFFFFFE#32)
  | .read _     => (0x5#4, 0x0FFFFF00#32)

theorem reservedChecked_eq_instr_iff {c : Command} {m : CmdWord} {i j : Instr} :
    reservedChecked c m i = .instr j ↔ c.cmd &&& m = 0#32 ∧ j = i := by
  unfold reservedChecked
  split <;> simp_all [eq_comm]

theorem reservedChecked_eq_illegal_iff {c : Command} {m : CmdWord} {i : Instr} :
    (∃ why, reservedChecked c m i = .illegal why) ↔ c.cmd &&& m ≠ 0#32 := by
  unfold reservedChecked
  split <;> simp_all

/-- A word decodes to an instruction exactly when it has the opcode of its row, no reserved bit, and its operands. -/
theorem decode_eq_instr_iff_opcode {c : Command} {i : Instr} :
    decode c = .instr i ↔ (opcodeOf c.cmd = (opcodeAndReserved i).1 ∧ c.cmd &&& (opcodeAndReserved i).2 = 0#32) ∧
      i = readAs i c := by
  constructor
  · intro h
    unfold decode at h
    split at h
    iterate 5
      · obtain ⟨hr, rfl⟩ := reservedChecked_eq_instr_iff.mp h
        exact ⟨⟨‹_›, hr⟩, rfl⟩
    · cases h
  · rintro ⟨⟨hop, hr⟩, hi⟩
    unfold decode
    cases i <;> rw [hop] <;> exact reservedChecked_eq_instr_iff.mpr ⟨hr, hi⟩

/-- The width of the operand field of `i`'s row, which takes the low bits of the word (30_encoding.md R86). -/
def operandBits : Instr → Nat
  | .init _     => 16
  | .absorb _ _ => 4
  | .finalize _ => 1
  | .clear _    => 1
  | .read _     => 8

/-- The mask of a row covers all bits above the operand field. -/
theorem row_mask_bits (i : Instr) : ∀ j, j < 32 →
    ((Laws.FixedBits.row i).1.getLsbD j ↔ operandBits i ≤ j ∧ j < 32) := by
  cases i <;> simp only [Laws.FixedBits.row, operandBits] <;> decide

/-- The reserved bits of a row are those between the operand field and OP. -/
theorem reserved_mask_bits (i : Instr) : ∀ j, j < 32 →
    ((opcodeAndReserved i).2.getLsbD j ↔ operandBits i ≤ j ∧ j < 28) := by
  cases i <;> simp only [opcodeAndReserved, operandBits] <;> decide

theorem operandBits_le (i : Instr) : operandBits i ≤ 28 := by
  cases i <;> simp only [operandBits] <;> decide

/-- The match of a row is its opcode and zeros. -/
theorem row_match_eq (i : Instr) : (Laws.FixedBits.row i).2 = (opcodeAndReserved i).1 ++ 0#28 := by
  cases i <;> simp only [Laws.FixedBits.row, opcodeAndReserved] <;> decide

/-- The two forms of a row's test agree: (CMD & mask) = match, and OP with the reserved bits 0 (30_encoding.md R87). -/
theorem and_row_eq_match_iff (i : Instr) (cmd : CmdWord) :
    cmd &&& (Laws.FixedBits.row i).1 = (Laws.FixedBits.row i).2 ↔
      opcodeOf cmd = (opcodeAndReserved i).1 ∧ cmd &&& (opcodeAndReserved i).2 = 0#32 :=
  and_mask_eq_match_iff _ (operandBits i) (operandBits_le i) (reserved_mask_bits i) (row_mask_bits i) (row_match_eq i)

/-- A word decodes to an instruction exactly when it matches the mask of its row and holds its operands. -/
theorem decode_eq_instr_iff {c : Command} {i : Instr} :
    decode c = .instr i ↔ c.cmd &&& (Laws.FixedBits.row i).1 = (Laws.FixedBits.row i).2 ∧ i = readAs i c := by
  rw [and_row_eq_match_iff, decode_eq_instr_iff_opcode]

/-! ### Encoding -/

/-- The low bits of a word made of a row's match and an operand are the operand. -/
theorem toNat_or_operand_mod {value : CmdWord} (k : Nat) {v : Nat} (hv : v < 2 ^ k) (hk : k ≤ 32)
    (hvalue : value.toNat % 2 ^ k = 0) : (value ||| BitVec.ofNat 32 v).toNat % 2 ^ k = v := by
  have fits : v < 2 ^ 32 := hv.trans_le (Nat.pow_le_pow_right (by decide) hk)
  rw [BitVec.toNat_or, Nat.or_mod_two_pow, hvalue, Nat.zero_or, BitVec.toNat_ofNat, Nat.mod_eq_of_lt fits,
    Nat.mod_eq_of_lt hv]

/-- The encoding of a well-formed instruction has the fixed bits of its row. -/
theorem encode_matches_row (i : Instr) : Laws.FixedBits.Statement i := by
  cases i with
  | init v => exact Laws.FixedBits.init v
  | absorb n d => exact Laws.FixedBits.absorb n d
  | finalize b => exact Laws.FixedBits.finalize b
  | clear b => exact Laws.FixedBits.clear b
  | read r => exact Laws.FixedBits.read r

/-- The encoding of a well-formed instruction holds its operands. -/
theorem readAs_encode {i : Instr} (hw : i.wellFormed = true) : readAs i (encode i) = i := by
  cases i with
  | init v =>
    simp only [readAs, encode, variantField_eq]
    rw [toNat_or_operand_mod 16 (of_decide_eq_true hw) (by decide) (by decide)]
  | absorb n d =>
    simp only [readAs, encode, countField_eq]
    rw [toNat_or_operand_mod 4 (of_decide_eq_true hw) (by decide) (by decide)]
  | finalize b => cases b <;> decide
  | clear b => cases b <;> decide
  | read r =>
    simp only [readAs, encode, regField_eq]
    rw [toNat_or_operand_mod 8 (of_decide_eq_true hw) (by decide) (by decide)]

/-- Settles O2: the encoding of a well-formed instruction has the fixed bits of its row and, in its operand field, its operand,
which is all that the decoder asks for. -/
theorem decodeOfEncode : Obligations.DecodeOfEncode := by
  unfold Obligations.DecodeOfEncode
  exact fun i hw => decode_eq_instr_iff.mpr ⟨encode_matches_row i hw, (readAs_encode hw).symm⟩

/-- Every operand that a word holds fits its field. -/
theorem readAs_wellFormed (i : Instr) (c : Command) : (readAs i c).wellFormed = true := by
  cases i with
  | init v => exact decide_eq_true (BitVec.isLt _)
  | absorb n d => exact decide_eq_true (BitVec.isLt _)
  | finalize b => rfl
  | clear b => rfl
  | read r => exact decide_eq_true (BitVec.isLt _)

/-- Transactions of a row that hold the same operands have the same low bits. -/
theorem low_bits_eq_of_readAs_eq {i : Instr} {c c' : Command} (hread : readAs i c = readAs i c') :
    c.cmd.toNat % 2 ^ operandBits i = c'.cmd.toNat % 2 ^ operandBits i := by
  cases i with
  | init v => simpa only [operandBits, readAs, variantField_eq, Instr.init.injEq] using hread
  | absorb n d => simpa only [operandBits, readAs, countField_eq] using (Instr.absorb.inj hread).1
  | finalize b =>
    simp only [readAs, destroyField_eq, Instr.finalize.injEq, decide_eq_decide] at hread
    simp only [operandBits]
    omega
  | clear b =>
    simp only [readAs, destroyField_eq, Instr.clear.injEq, decide_eq_decide] at hread
    simp only [operandBits]
    omega
  | read r => simpa only [operandBits, readAs, regField_eq, Instr.read.injEq] using hread

/-- A command word of a row is fixed by its operands. -/
theorem cmd_eq_of_readAs_eq {i : Instr} {c c' : Command}
    (hrow : c.cmd &&& (Laws.FixedBits.row i).1 = c'.cmd &&& (Laws.FixedBits.row i).1)
    (hread : readAs i c = readAs i c') : c.cmd = c'.cmd := by
  have high := congrArg BitVec.toNat hrow
  rw [toNat_and_bitRange _ 32 (row_mask_bits i), toNat_and_bitRange _ 32 (row_mask_bits i),
    Nat.mod_eq_of_lt c.cmd.isLt, Nat.mod_eq_of_lt c'.cmd.isLt] at high
  rw [← BitVec.toNat_inj, ← Nat.div_add_mod' c.cmd.toNat (2 ^ operandBits i), high, low_bits_eq_of_readAs_eq hread,
    Nat.div_add_mod']

/-- Settles O3: what decodes holds operands of its fields, so it is well formed; and its encoding has the same fixed bits and the
same operands as the word. -/
theorem encodeOfDecode : Obligations.EncodeOfDecode := by
  unfold Obligations.EncodeOfDecode
  intro c i hd
  obtain ⟨hrow, hread⟩ := decode_eq_instr_iff.mp hd
  have hw : i.wellFormed = true := hread ▸ readAs_wellFormed i c
  refine ⟨hw, cmd_eq_of_readAs_eq (i := i) ?_ ?_, ?_⟩
  · rw [encode_matches_row i hw, hrow]
  · rw [readAs_encode hw, ← hread]
  · rintro n d rfl
    injection hread

/-- Settles O4: matching the mask and holding the operands is what decoding asks for, with each field read as a number. -/
theorem opcodeRowsDecode : Obligations.OpcodeRowsDecode := by
  unfold Obligations.OpcodeRowsDecode
  refine fun c => ⟨fun v => ?_, fun n d => ?_, fun b => ?_, fun b => ?_, fun r => ?_⟩
  · simp only [decode_eq_instr_iff, Laws.FixedBits.row, readAs, variantField_eq, Instr.init.injEq]
  · simp only [decode_eq_instr_iff, Laws.FixedBits.row, readAs, countField_eq, Instr.absorb.injEq]
  · simp only [decode_eq_instr_iff, Laws.FixedBits.row, readAs, destroyField_eq, Instr.finalize.injEq]
  · simp only [decode_eq_instr_iff, Laws.FixedBits.row, readAs, destroyField_eq, Instr.clear.injEq]
  · simp only [decode_eq_instr_iff, Laws.FixedBits.row, readAs, regField_eq, Instr.read.injEq]

/-- Settles O1: each example is one word, which the decoder runs on. -/
theorem encodingExamplesDecode : Obligations.EncodingExamplesDecode := by
  unfold Obligations.EncodingExamplesDecode
  decide

/-- A DESTROY operand is encoded like a number (30_encoding.md R90). -/
theorem setWidth_ofBool_decide {k : Nat} (hk : k ≤ 1) :
    (BitVec.ofBool (decide (k = 1))).setWidth 32 = BitVec.ofNat 32 k := by
  interval_cases k <;> rfl

/-- Settles O6: the assembler's bounds are those of the fields, and it encodes what fits. -/
theorem assemblerLines : Obligations.AssemblerLines := by
  unfold Obligations.AssemblerLines
  refine ⟨fun v => ?_, fun n d => ?_, fun k => ?_, fun k => ?_, fun r => ?_⟩
  · by_cases h : v < 2 ^ 16
    · simp only [assemble, assembleLine, if_pos h, if_neg h.not_ge, Option.map_some, encode]
    · simp only [assemble, assembleLine, if_neg h, if_pos (not_lt.mp h), Option.map_none]
  · by_cases h : n < 16 ∧ d < 2 ^ 64
    · have fits : ¬ (16 ≤ n ∨ 2 ^ 64 ≤ d) := by omega
      simp only [assemble, assembleLine, if_pos h, if_neg fits, Option.map_some, encode]
    · have refused : 16 ≤ n ∨ 2 ^ 64 ≤ d := by omega
      simp only [assemble, assembleLine, if_neg h, if_pos refused, Option.map_none]
  · by_cases h : k ≤ 1
    · simp only [assemble, assembleLine, if_pos h, if_neg h.not_gt, Option.map_some, encode, setWidth_ofBool_decide h]
    · simp only [assemble, assembleLine, if_neg h, if_pos (not_le.mp h), Option.map_none]
  · by_cases h : k ≤ 1
    · simp only [assemble, assembleLine, if_pos h, if_neg h.not_gt, Option.map_some, encode, setWidth_ofBool_decide h]
    · simp only [assemble, assembleLine, if_neg h, if_pos (not_le.mp h), Option.map_none]
  · by_cases h : r < 256
    · simp only [assemble, assembleLine, if_pos h, if_neg h.not_ge, Option.map_some, encode]
    · simp only [assemble, assembleLine, if_neg h, if_pos (not_lt.mp h), Option.map_none]

/-! ### ILLEGAL words -/

/-- A reserved opcode is none of the five. -/
theorem opcode_reserved (op : BitVec 4) (h1 : op ≠ 0x1#4) (h2 : op ≠ 0x2#4) (h3 : op ≠ 0x3#4) (h4 : op ≠ 0x4#4)
    (h5 : op ≠ 0x5#4) : op = 0x0#4 ∨ 0x6#4 ≤ op := by
  decide +revert

/-- The words that decode as ILLEGAL (60_exceptions.md R202). -/
theorem decode_illegal_iff (c : Command) :
    (∃ why, decode c = .illegal why) ↔
      (opcodeOf c.cmd = 0x0#4 ∨ 0x6#4 ≤ opcodeOf c.cmd) ∨
      (opcodeOf c.cmd = 0x1#4 ∧ c.cmd.extractLsb' 16 12 ≠ 0#12) ∨
      (opcodeOf c.cmd = 0x2#4 ∧ c.cmd.extractLsb' 4 24 ≠ 0#24) ∨
      ((opcodeOf c.cmd = 0x3#4 ∨ opcodeOf c.cmd = 0x4#4) ∧ c.cmd.extractLsb' 1 27 ≠ 0#27) ∨
      (opcodeOf c.cmd = 0x5#4 ∧ c.cmd.extractLsb' 8 20 ≠ 0#20) := by
  have init_bits := and_reserved_eq_zero_iff (cmd := c.cmd) (reserved := 0x0FFF0000#32) 16 (by decide) (by decide)
  have absorb_bits := and_reserved_eq_zero_iff (cmd := c.cmd) (reserved := 0x0FFFFFF0#32) 4 (by decide) (by decide)
  have destroy_bits := and_reserved_eq_zero_iff (cmd := c.cmd) (reserved := 0x0FFFFFFE#32) 1 (by decide) (by decide)
  have read_bits := and_reserved_eq_zero_iff (cmd := c.cmd) (reserved := 0x0FFFFF00#32) 8 (by decide) (by decide)
  unfold decode
  split
  iterate 5
    · next hop => simp [reservedChecked_eq_illegal_iff, hop, init_bits, absorb_bits, destroy_bits, read_bits]
  · next h1 h2 h3 h4 h5 => exact ⟨fun _ => .inl (opcode_reserved _ h1 h2 h3 h4 h5), fun _ => ⟨_, rfl⟩⟩

end Sys2Proof.Machine
end

section
/-!
PROOFS. Every command as a whole next state: what a failure is, which commands fail, and what each kind of success writes
(43_control.md, 42_finalize.md R163, 60_exceptions.md R200 to R207).
-/

namespace Sys2Proof.Machine

/-! ### Failures -/

/-- fail(code) leaves a failed state. -/
theorem failedState_failWith (code : ErrorCode) (s : State) : FailedState code s (failWith code s) :=
  ⟨failWith_err code s, failWith_everFailed code s, failWith_resp_eq_self code s, rfl⟩

/-- A command for which `failureOf` names a code runs fail(code). -/
theorem exec_of_failureOf {i : Instr} {s : State} {code : ErrorCode} (hf : failureOf i s = some code) :
    exec i s = .next (failWith code s) := by
  obtain ⟨t, he⟩ := exec_answers i s
  rw [he, eq_failWith_of_failureOf hf he]

/-- A command for which `failureOf` names a code completes by failing with it. -/
theorem failsWith_of_failureOf {i : Instr} {s : State} {code : ErrorCode} (hf : failureOf i s = some code) :
    FailsWith code s (exec i s) :=
  ⟨_, exec_of_failureOf hf, failedState_failWith code s⟩

/-- Running an ILLEGAL word is fail(ILLEGAL_COMMAND). -/
theorem runWord_of_illegal {c : Command} {why : IllegalWord} (hd : decode c = .illegal why) (s : State) :
    runWord c s = .next (failWith .illegalCommand s) := by
  unfold runWord
  rw [hd]
  rfl

theorem failsWith_of_illegal {c : Command} {why : IllegalWord} (hd : decode c = .illegal why) (s : State) :
    FailsWith .illegalCommand s (runWord c s) :=
  ⟨_, runWord_of_illegal hd s, failedState_failWith .illegalCommand s⟩

/-- Settles O5: the ILLEGAL words are told by opcode and reserved bits, and running one is fail(ILLEGAL_COMMAND). -/
theorem illegalCommandRaised : Obligations.IllegalCommandRaised := by
  unfold Obligations.IllegalCommandRaised
  exact fun c => ⟨decode_illegal_iff c, fun _ hd s => failsWith_of_illegal hd s⟩

/-- A success leaves the ghost flag. -/
theorem Succeeds.everFailed_eq {i : Instr} {s t : State} (h : Succeeds i s t) : t.everFailed = s.everFailed := by
  cases h <;> simp

/-- Settles O50: `failureOf` tells a failure, which is fail(code), from a success, which of the status fields writes ERR only in
an INIT. -/
theorem failurePriority : Obligations.FailurePriority := by
  unfold Obligations.FailurePriority
  refine fun i s => ⟨fun code hf => failsWith_of_failureOf hf, fun hf => ?_, fun c why hd => failsWith_of_illegal hd s⟩
  obtain ⟨t, he⟩ := exec_answers i s
  have hs := succeeds_of_failureOf hf he
  refine ⟨t, he, hs.everFailed_eq, ?_, hs.err_of_ne_init⟩
  rintro ⟨n, rfl⟩
  exact hs.err_of_init

/-- Settles O49: each operand out of range is a case of `failureOf`, before any check of CFG. -/
theorem operandErrorsRaised : Obligations.OperandErrorsRaised := by
  unfold Obligations.OperandErrorsRaised
  refine fun s => ⟨fun v h1 h2 h3 h4 => failsWith_of_failureOf ?_, fun n d hn => failsWith_of_failureOf (if_pos hn),
    fun r hr => failsWith_of_failureOf ?_⟩
  · rw [failureOf_init, if_pos (variantOfNumber_eq_none.mpr ⟨h1, h2, h3, h4⟩)]
  · rw [failureOf_read, if_pos (readRegister_eq_none.mpr hr)]

/-! ### Successes -/

/-- A success is what the command runs. -/
theorem Succeeds.exec_eq {i : Instr} {s t : State} (h : Succeeds i s t) : exec i s = .next t := by
  cases h with
  | init v s hv =>
    simp only [exec, execInit, variantOfNumber_eq_some.mpr ⟨hv, rfl⟩]
  | absorb n d s hn hc => simp [exec, execAbsorb, hc, hn.not_gt]
  | finalize b s hc => simp [exec, execFinalize, hc]
  | clear b s hc => rcases hc with h | h <;> simp [exec, execClear, h]
  | read r s w hr => simp only [exec, execRead, hr]

/-- The cleared computation with the digest cleared or latched is responded to and, with D = 1, released: the shape of the next
state of FINALIZE and CLEAR. -/
theorem respondStatus_releaseIf (b : Bool) (s : State) (hc : b = true ∨ s.cfg = true) :
    respondStatus (releaseIf b (clearComputation s)) =
      { s with
        lanes := Vector.replicate 25 0#64, pbuf := Vector.replicate 144 0#8, plen := 0#8, bproc := 0#64,
        cfg := !b, var := if b = true then .unset else s.var,
        resp := statusResponse (respondStatus (releaseIf b (clearComputation s))) } := by
  cases b with
  | true => rfl
  | false =>
    cases s
    obtain rfl : _ = true := by simpa using hc
    rfl

/-- Settles O40: FINALIZE with CFG = 1 succeeds, and its next state is written out field by field. -/
theorem finalizeLatchesDigest : Obligations.FinalizeLatchesDigest := by
  unfold Obligations.FinalizeLatchesDigest
  exact fun s b hc => ⟨_, (Succeeds.finalize b s hc).exec_eq,
    respondStatus_releaseIf b (latchDigest (absorbBlock (padBlock s) s)) (.inr hc)⟩

/-- Settles O45: CLEAR succeeds with D = 1 or with CFG = 1, and its next state is written out field by field. -/
theorem clearAbandonsMessage : Obligations.ClearAbandonsMessage := by
  unfold Obligations.ClearAbandonsMessage
  exact fun s b hc => ⟨_, (Succeeds.clear b s hc).exec_eq, respondStatus_releaseIf b (clearDigest s) hc⟩

/-- What a successful INIT leaves: STATUS then shows nothing of the state before. -/
theorem exec_init_eq {v : Variant} {r : Word} (hv : v ≠ .unset)
    (hr : statusResponse (freshInstance v State.reset) = r) (s : State) :
    exec (.init (variantBits v)) s = .next
      { s with lanes := Vector.replicate 25 0#64, cfg := true, var := v, pbuf := Vector.replicate 144 0#8, plen := 0#8,
               bproc := 0#64, dig := Vector.replicate 64 0#8, dv := false, err := .noError, resp := r } := by
  rw [(Succeeds.init v s hv).exec_eq, ← hr]
  rfl

/-- Settles O18: INIT of each of the four numbers is `freshInstance` of its variant, and the four STATUS values are computed. -/
theorem initCreatesInstance : Obligations.InitCreatesInstance := by
  unfold Obligations.InitCreatesInstance
  exact fun s => ⟨exec_init_eq (v := .v224) (by decide) (by decide) s, exec_init_eq (v := .v256) (by decide) (by decide) s,
    exec_init_eq (v := .v384) (by decide) (by decide) s, exec_init_eq (v := .v512) (by decide) (by decide) s⟩

/-- FINALIZE and CLEAR with D = 1 leave CFG = 0: they release, or FINALIZE fails because CFG is 0 already. -/
theorem cfg_of_destroy {s t : State} (h : exec (.finalize true) s = .next t ∨ exec (.clear true) s = .next t) :
    t.cfg = false := by
  rcases h with he | he
  · cases hc : s.cfg with
    | false =>
      rw [eq_failWith_of_failureOf (i := .finalize true) (if_pos hc) he, failWith_cfg, hc]
    | true =>
      rw [(Succeeds.finalize true s hc).exec_eq] at he
      rw [← Host.Outcome.next.inj he, respondStatus_cfg, releaseIf_cfg, Bool.not_true, Bool.false_and]
  · rw [(Succeeds.clear true s (.inl rfl)).exec_eq] at he
    rw [← Host.Outcome.next.inj he, respondStatus_cfg, releaseIf_cfg, Bool.not_true, Bool.false_and]

/-- Settles O29: with CFG = 0 each of the three is a case of `failureOf`; the reset state has CFG = 0, and D = 1 leaves it. -/
theorem notConfiguredRaised : Obligations.NotConfiguredRaised := by
  unfold Obligations.NotConfiguredRaised
  refine ⟨fun s hc => ⟨fun n d hn => failsWith_of_failureOf ?_, fun b => failsWith_of_failureOf (if_pos hc),
    failsWith_of_failureOf (if_pos ⟨rfl, hc⟩)⟩, rfl, fun s t h => cfg_of_destroy h⟩
  rw [failureOf, if_neg (by omega), if_pos hc]

/-- Settles O54: a failure writes neither; of the successes, ABSORB and READ do not either, INIT writes both, and FINALIZE and
CLEAR only through the release of D = 1. -/
theorem configurationWriters : Obligations.ConfigurationWriters := by
  unfold Obligations.ConfigurationWriters
  intro i s t he hchanged
  rcases exec_cases i s with ⟨code, -, he'⟩ | ⟨-, u, he', hs⟩ <;>
    obtain rfl := Host.Outcome.next.inj (he.symm.trans he')
  · simp at hchanged
  · cases hs with
    | init v s hv => exact .inl ⟨_, rfl, by simp, by simp⟩
    | absorb n d s hn hc => simp at hchanged
    | finalize b s hc => cases b <;> simp_all
    | clear b s hc => cases b <;> simp_all
    | read r s w hr => simp at hchanged

/-- Settles O55: a failure writes neither; of the successes, ABSORB and READ do not either, FINALIZE sets DV, and INIT and CLEAR
clear both. -/
theorem digestWriters : Obligations.DigestWriters := by
  unfold Obligations.DigestWriters
  intro i s t he hchanged
  rcases exec_cases i s with ⟨code, -, he'⟩ | ⟨hf, u, he', hs⟩ <;>
    obtain rfl := Host.Outcome.next.inj (he.symm.trans he')
  · simp at hchanged
  · cases hs with
    | init v s hv => exact .inr ⟨.inl ⟨_, rfl⟩, hf, by simp, by simp⟩
    | absorb n d s hn hc => simp at hchanged
    | finalize b s hc => exact .inl ⟨⟨b, rfl⟩, hf, by simp⟩
    | clear b s hc => exact .inr ⟨.inr ⟨b, rfl⟩, hf, by simp, by simp⟩
    | read r s w hr => simp at hchanged

end Sys2Proof.Machine
end

section
/-!
PROOFS. The registers that READ shows, bit by bit (10_state.md R34 to R38): STATUS with its fields, and the digest words with
their bytes; then what the host learns from them.
-/

namespace Sys2Proof.Machine

/-! ### STATUS -/

theorem statusResponse_cfg_bit (s : State) : (statusResponse s).getLsbD 0 = s.cfg := by
  simp only [statusResponse, statusWord, BitVec.getLsbD_setWidth, BitVec.getLsbD_append, BitVec.getLsbD_ofBool]
  simp

theorem statusResponse_dv_bit (s : State) : (statusResponse s).getLsbD 1 = s.dv := by
  simp only [statusResponse, statusWord, BitVec.getLsbD_setWidth, BitVec.getLsbD_append, BitVec.getLsbD_ofBool]
  simp

/-- Fields above the two flags: each is one part of the concatenation. -/
theorem statusResponse_fields (s : State) :
    (statusResponse s).extractLsb' 2 2 = vcodeField s ∧ (statusResponse s).extractLsb' 4 4 = errorNumber s.err ∧
    (statusResponse s).extractLsb' 8 8 = s.plen ∧ (statusResponse s).extractLsb' 16 8 = bsizeField s ∧
    (statusResponse s).extractLsb' 24 40 = 0#40 := by
  unfold statusResponse statusWord
  simp (disch := decide) only [BitVec.extractLsb'_setWidth_of_le, BitVec.extractLsb'_append_eq_of_le, Nat.reduceSub,
    BitVec.extractLsb'_append_eq_right, BitVec.extractLsb'_zero, and_self]

/-- READ of a legal index responds with its register and changes nothing else. -/
theorem exec_read_eq {r : Nat} {s : State} {w : Word} (h : readRegister r s = some w) :
    exec (.read r) s = .next { s with resp := w } := (Succeeds.read r s w h).exec_eq

/-- READ DIGESTw. -/
theorem readRegister_digest (s : State) (w : Nat) (h : w < 8) : readRegister (0x08 + w) s = some (digestWord s w) := by
  unfold readRegister
  rw [if_neg (by omega), if_neg (by omega), if_neg (by omega), if_pos (by omega), Nat.add_sub_cancel_left]

/-- Settles O47: READ STATUS returns `statusResponse`, whose fields are the parts it is put together from. -/
theorem statusFields : Obligations.StatusFields := by
  unfold Obligations.StatusFields
  intro s
  obtain ⟨vcode, err, plen, bsize, high⟩ := statusResponse_fields s
  refine ⟨statusResponse s, exec_read_eq rfl, statusResponse_cfg_bit s, statusResponse_dv_bit s, ?_, err, plen, bsize, high⟩
  rw [vcode, vcodeField]
  cases s.cfg <;> cases s.var <;> rfl

/-- ERR's number is 0 for no error alone (60_exceptions.md R201). -/
theorem errorNumber_eq_zero_iff (e : ErrorCode) : errorNumber e = 0#4 ↔ e = .noError := by
  cases e <;> decide

/-- The facade's test of a STATUS response reads ERR. -/
theorem createSucceeded_statusResponse (s : State) : createSucceeded (statusResponse s) = true ↔ s.err = .noError := by
  obtain ⟨-, err, -⟩ := statusResponse_fields s
  rw [createSucceeded, decide_eq_true_iff, err, errorNumber_eq_zero_iff]

/-- After a failure ERR is not 0: it was not, or it took the code. -/
theorem failWith_err_ne_noError {code : ErrorCode} (hcode : code ≠ .noError) (s : State) :
    (failWith code s).err ≠ .noError := by
  rw [failWith_err]
  split
  · exact hcode
  · assumption

/-- After an INIT, ERR is 0 exactly when the number is legal. -/
theorem err_of_init_iff {v : Nat} {s t : State} (he : exec (.init v) s = .next t) :
    t.err = .noError ↔ v = 224 ∨ v = 256 ∨ v = 384 ∨ v = 512 := by
  by_cases hv : v = 224 ∨ v = 256 ∨ v = 384 ∨ v = 512
  · have succeeds : failureOf (.init v) s = none := if_pos hv
    exact iff_of_true (succeeds_of_failureOf succeeds he).err_of_init hv
  · have fails : failureOf (.init v) s = some .invalidVariant := if_neg hv
    exact iff_of_false (eq_failWith_of_failureOf fails he ▸ failWith_err_ne_noError (by decide) s) hv

/-- Settles O19: INIT responds with STATUS whether it fails or not, and after it ERR is 0 exactly when the number is legal. -/
theorem initSuccessInResponse : Obligations.InitSuccessInResponse := by
  unfold Obligations.InitSuccessInResponse
  intro s t v he
  have hresp : t.resp = statusResponse t := responseRule.2.1 (.init v) s t he nofun
  rw [hresp, createSucceeded_statusResponse]
  exact ⟨err_of_init_iff he, Iff.rfl⟩

/-! ### The digest words -/

/-- Byte k of DIGESTw is digest byte 8w+k. -/
theorem byteOf_digestWord (s : State) (w k : Nat) (hk : k < 8) : byteOf (digestWord s w) k = digByte s (8 * w + k) :=
  byteOf_le64 _ k hk

theorem digByte_of_lt (s : State) (k : Nat) (h : k < 64) : digByte s k = s.dig[k] := by
  simp [digByte, h]

/-- Settles O46: each index is one case of the register map, and a digest word is put together byte by byte. -/
theorem readReturnsRegister : Obligations.ReadReturnsRegister := by
  unfold Obligations.ReadReturnsRegister
  refine fun s => ⟨exec_read_eq rfl, exec_read_eq rfl, exec_read_eq rfl, fun w h =>
    ⟨digestWord s w, exec_read_eq (readRegister_digest s w h), fun i h' => ?_⟩⟩
  rw [← digByte_of_lt s (8 * w + i) (by omega)]
  exact byteOf_digestWord s w i h'

/-- Reading DIGESTw for each w of a list yields those words. -/
theorem responsesOf_readDigest (ws : List Nat) (hws : ∀ w ∈ ws, w < 8) (s : State) :
    responsesOf (ws.map fun w => .read (0x08 + w)) s = ws.map (digestWord s) := by
  induction ws generalizing s with
  | nil => rfl
  | cons w ws ih =>
    obtain ⟨hw, hrest⟩ := List.forall_mem_cons.mp hws
    have he := exec_read_eq (readRegister_digest s w hw)
    simp only [List.map_cons, responsesOf, he, ih hrest]
    rfl

/-- LEBYTES of the first n digest words are the first 8n bytes of DIG. -/
theorem flatMap_leBytes_digestWord (s : State) (n : Nat) :
    ((List.range n).map (digestWord s)).flatMap leBytes = (List.range (8 * n)).map (digByte s) := by
  induction n with
  | zero => rfl
  | succ n ih =>
    have word_bytes : leBytes (digestWord s n) = (List.range 8).map fun k => digByte s (8 * n + k) :=
      List.map_congr_left fun k hk => byteOf_digestWord s n k (List.mem_range.mp hk)
    rw [List.range_succ, List.map_append, List.flatMap_append, ih, Nat.mul_succ, List.range_add, List.map_append,
      List.map_map]
    simp [word_bytes]

/-- Settles O48: the reads yield the digest words, whose bytes are DIG's from 0 on, and the first DB of them are kept. -/
theorem readDigestGivesDigest : Obligations.ReadDigestGivesDigest := by
  unfold Obligations.ReadDigestGivesDigest
  intro s v _
  have fits := digestLength_le v
  rw [digestFromResponses, readDigestCommands, responsesOf_readDigest _ (fun w hw => by have := List.mem_range.mp hw; omega),
    flatMap_leBytes_digestWord, ← List.map_take, List.take_range, min_eq_left (by omega)]

end Sys2Proof.Machine
end

section
/-!
PROOFS. The command port (70_reset_and_hazards.md R229 to R240): what a step does with each host move, that no command looks at
the port or at the responses delivered, and that steps over a port run the commands in order.
-/

namespace Sys2Proof.Machine

/-! ### One step -/

/-- A step with a command next runs its word and delivers the response. -/
theorem step_of_command {s : State} {c : Command} {rest : List HostMove} (hl : s.launched = true)
    (hp : s.port = .command c :: rest) : step s = delivered (runWord c { s with port := rest }) := by
  simp only [step, takeMove, hp, acceptMove, hl, if_true]

/-- A step whose next word decodes to an instruction runs it. -/
theorem step_of_instr {s t : State} {c : Command} {i : Instr} {rest : List HostMove} (hl : s.launched = true)
    (hp : s.port = .command c :: rest) (hd : decode c = .instr i) (he : exec i { s with port := rest } = .next t) :
    step s = .next (recordResponse t) := by
  rw [step_of_command hl hp, runWord, hd]
  simp only [he, delivered]

/-- Settles O7: the word runs the instruction it decodes to, which completes, and the response is delivered. -/
theorem stepRunsDecodedInstruction : Obligations.StepRunsDecodedInstruction := by
  unfold Obligations.StepRunsDecodedInstruction
  intro s c i rest hl hp hd
  obtain ⟨t, he⟩ := exec_answers i { s with port := rest }
  rw [step_of_instr hl hp hd he, he]
  rfl

/-- Settles O8: the word runs fail(ILLEGAL_COMMAND), and the response is delivered. -/
theorem stepFailsIllegalWord : Obligations.StepFailsIllegalWord := by
  unfold Obligations.StepFailsIllegalWord
  intro s c why rest hl hp hd
  refine ⟨failWith .illegalCommand { s with port := rest }, ?_, failedState_failWith _ _⟩
  rw [step_of_command hl hp, runWord_of_illegal hd]
  rfl

/-- Settles O9: with an empty port a step is idle. -/
theorem idleKeepsState : Obligations.IdleKeepsState := by
  unfold Obligations.IdleKeepsState
  exact fun s => step_of_idle

/-- A step with a reset next, in a command or not, is the hardware reset. -/
theorem step_of_resetMove {s : State} {m : HostMove} {rest : List HostMove} (hp : s.port = m :: rest)
    (hm : m = .reset ∨ ∃ c, m = .resetDuring c) : step s = .next (hardwareReset { s with port := rest }) := by
  rcases hm with rfl | ⟨c, rfl⟩
  · exact step_of_reset hp
  · simp only [step, takeMove, hp, acceptMove]

/-- A hardware reset is a clean launch. -/
theorem cleanLaunch_hardwareReset (s : State) : CleanLaunch (hardwareReset s) :=
  ⟨rfl, rfl, rfl, rfl, rfl, rfl, rfl, rfl, rfl, rfl⟩

/-- Settles O10: both moves run the hardware reset, which takes every field of the core from the reset state. -/
theorem hardwareResetState : Obligations.HardwareResetState := by
  unfold Obligations.HardwareResetState
  exact fun s m rest hp hm => ⟨_, step_of_resetMove hp hm, cleanLaunch_hardwareReset _, rfl, rfl, rfl, rfl⟩

/-- Settles O11: the reset state is one state, and its arrays are constant. -/
theorem resetValues : Obligations.ResetValues := by
  unfold Obligations.ResetValues
  exact ⟨fun i h => Vector.getElem_replicate h, rfl, rfl, fun j h => Vector.getElem_replicate h, rfl, rfl,
    fun k h => Vector.getElem_replicate h, rfl, rfl⟩

/-- Settles O12: before the first reset the port refuses a command. -/
theorem noCommandBeforeReset : Obligations.NoCommandBeforeReset := by
  unfold Obligations.NoCommandBeforeReset
  intro s c rest hl hp
  simp only [step, takeMove, hp, acceptMove, hl, Bool.false_eq_true, if_false]

/-! ### What no command touches -/

/-- The host's side of the state: whether the core was reset, the coming moves and the responses delivered. -/
def hostSide (s : State) : Bool × List HostMove × List Word := (s.launched, s.port, s.responses)

/-- A success leaves the host's side. -/
theorem Succeeds.hostSide_eq {i : Instr} {s t : State} (h : Succeeds i s t) : hostSide t = hostSide s := by
  cases h <;> simp [hostSide]

/-- A command leaves the host's side, whether it fails or not. -/
theorem exec_hostSide {i : Instr} {s t : State} (he : exec i s = .next t) : hostSide t = hostSide s := by
  cases hf : failureOf i s with
  | some code =>
    rw [eq_failWith_of_failureOf hf he]
    rfl
  | none => exact (succeeds_of_failureOf hf he).hostSide_eq

theorem exec_launched {i : Instr} {s t : State} (he : exec i s = .next t) : t.launched = s.launched :=
  congrArg Prod.fst (exec_hostSide he)

/-- Running a word completes and leaves the host's side. -/
theorem runWord_answers (c : Command) (s : State) : ∃ t, runWord c s = .next t ∧ hostSide t = hostSide s := by
  rcases runWord_cases c s with ⟨i, -, hr⟩ | ⟨why, -, hr⟩
  · obtain ⟨t, he⟩ := exec_answers i s
    exact ⟨t, hr.trans he, exec_hostSide he⟩
  · exact ⟨_, hr, rfl⟩

/-- Settles O13: every word completes and leaves the rest of the port and the responses, to which its response is added. -/
theorem everyCommandCompletes : Obligations.EveryCommandCompletes := by
  unfold Obligations.EveryCommandCompletes
  intro s c rest hl hp
  obtain ⟨t, hr, hside⟩ := runWord_answers c { s with port := rest }
  obtain ⟨hlaunched, hport, hresponses⟩ : t.launched = s.launched ∧ t.port = rest ∧ t.responses = s.responses := by
    simpa [hostSide] using hside
  refine ⟨recordResponse t, ?_, ?_, ?_, ?_⟩
  · rw [step_of_command hl hp, hr, delivered]
  · rw [recordResponse_launched, hlaunched, hl]
  · rw [recordResponse_port, hport]
  · rw [recordResponse_responses, recordResponse_resp, hresponses]

/-- A word of another opcode than ABSORB decodes without DATA. -/
theorem decode_ignores_data {cmd : CmdWord} (hop : opcodeOf cmd ≠ 0x2#4) (d e : Word) :
    decode ⟨cmd, d⟩ = decode ⟨cmd, e⟩ := by
  unfold decode
  dsimp only
  split
  · rfl
  · exact absurd ‹_› hop
  · rfl
  · rfl
  · rfl
  · rfl

/-- Settles O14: DATA reaches a command only through its decoding, where only ABSORB takes it. -/
theorem dataIgnoredExceptByAbsorb : Obligations.DataIgnoredExceptByAbsorb := by
  unfold Obligations.DataIgnoredExceptByAbsorb
  intro s cmd d e rest hop
  simp only [step, takeMove, acceptMove, runWord, decode_ignores_data hop d e]

/-! ### Runs over the port -/

/-- The state with other moves to come and other responses delivered. -/
def setHost (port : List HostMove) (responses : List Word) (s : State) : State :=
  { s with port := port, responses := responses }

theorem absorbByte_setHost (port : List HostMove) (responses : List Word) (s : State) (b : Byte) :
    absorbByte (setHost port responses s) b = setHost port responses (absorbByte s b) := by
  unfold absorbByte
  change (if blockFull (appendByte b s) = true then _ else _) = _
  split <;> rfl

theorem absorbBytes_setHost (port : List HostMove) (responses : List Word) (bs : List Byte) (s : State) :
    absorbBytes bs (setHost port responses s) = setHost port responses (absorbBytes bs s) := by
  induction bs generalizing s with
  | nil => rfl
  | cons b bs ih => rw [absorbBytes_cons, absorbByte_setHost, ih, absorbBytes_cons]

/-- A success does not look at the port or at the responses. -/
theorem Succeeds.setHost {i : Instr} {s t : State} (h : Succeeds i s t) (port : List HostMove) (responses : List Word) :
    Succeeds i (setHost port responses s) (setHost port responses t) := by
  cases h with
  | init v s hv => exact .init v _ hv
  | absorb n d s hn hc =>
    have := Succeeds.absorb n d (Machine.setHost port responses s) hn hc
    rwa [absorbBytes_setHost] at this
  | finalize b s hc => cases b <;> exact .finalize _ _ hc
  | clear b s hc => cases b <;> exact .clear _ _ hc
  | read r s w hr => exact .read r _ w hr

/-- No command looks at the port or at the responses. -/
theorem exec_setHost {i : Instr} {s t : State} (he : exec i s = .next t) (port : List HostMove) (responses : List Word) :
    exec i (setHost port responses s) = .next (setHost port responses t) := by
  cases hf : failureOf i s with
  | some code =>
    have hf' : failureOf i (setHost port responses s) = some code := by cases i <;> exact hf
    rw [exec_of_failureOf hf', eq_failWith_of_failureOf hf he]
    rfl
  | none => exact ((succeeds_of_failureOf hf he).setHost port responses).exec_eq

theorem execAll_cons {i : Instr} {is : List Instr} {s t : State} (he : exec i s = .next t) :
    execAll (i :: is) s = execAll is t := by
  rw [execAll, he]

theorem responsesOf_cons {i : Instr} {is : List Instr} {s t : State} (he : exec i s = .next t) :
    responsesOf (i :: is) s = t.resp :: responsesOf is t := by
  rw [responsesOf, he]

/-- One step over a port that begins with the command of a well-formed instruction. -/
theorem step_of_encoded {i : Instr} {s t : State} {moves : List HostMove} {responses : List Word}
    (hw : i.wellFormed = true) (hl : s.launched = true) (he : exec i s = .next t) :
    step (setHost (.command (encode i) :: moves) responses s) = .next (setHost moves (responses ++ [t.resp]) t) :=
  step_of_instr (t := setHost moves responses t) hl rfl (decodeOfEncode i hw) (exec_setHost he moves responses)

theorem run_succ_of_step {k : Nat} {s t : State} (h : step s = .next t) :
    Host.Core.run core (k + 1) s = Host.Core.run core k t := by
  have h' : core.step s = .next t := h
  simp only [Host.Core.run, h']

/-- Steps over a port that holds the encoded commands run them in order and deliver their responses. -/
theorem run_movesOf (is : List Instr) (s : State) (rest : List HostMove) (responses : List Word)
    (hw : ∀ i ∈ is, i.wellFormed = true) (hl : s.launched = true) :
    ∃ t, execAll is s = .next t ∧
      Host.Core.run core is.length (setHost (movesOf is ++ rest) responses s) =
        .next (setHost rest (responses ++ responsesOf is s) t) := by
  induction is generalizing s responses with
  | nil => exact ⟨s, rfl, by rw [responsesOf, List.append_nil]; rfl⟩
  | cons i is ih =>
    obtain ⟨hi, his⟩ := List.forall_mem_cons.mp hw
    obtain ⟨t, he⟩ := exec_answers i s
    obtain ⟨u, hall, hrun⟩ := ih t (responses ++ [t.resp]) his ((exec_launched he).trans hl)
    refine ⟨u, (execAll_cons he).trans hall, ?_⟩
    rw [responsesOf_cons he, List.append_cons, ← hrun]
    exact run_succ_of_step (step_of_encoded hi hl he)

/-- Settles O15: the run over the port, with the responses delivered so far kept in front. -/
theorem portRunsInOrder : Obligations.PortRunsInOrder := by
  unfold Obligations.PortRunsInOrder
  exact fun is s rest hw hl => run_movesOf is s rest s.responses hw hl

end Sys2Proof.Machine
end

section
/-!
PROOFS. The invariant (10_state.md R26 to R30, R44, R45): a failure and each kind of success keep the relations between the
fields, and so does every step.
-/

namespace Sys2Proof.Machine

/-- What DIG reads at byte k when it holds a digest, in and past the register. -/
theorem digByte_of_digest {s : State} {v : Variant} {a : LaneFile} (h : s.dig = digestOf v a) (k : Nat) :
    digByte s k = if k < digestLength v then byteOf (laneNumber a (k / 8)) (k % 8) else 0x00#8 := by
  by_cases hk : k < 64
  · have := laneNumber_eq a (k / 8) (by omega)
    simp [digByte_of_lt s k hk, h, getElem_digestOf v a k hk, this]
  · have past : ¬ k < digestLength v := by have := digestLength_le v; omega
    simp [digByte, hk, past]

theorem digByte_congr {s t : State} (h : t.dig = s.dig) (k : Nat) : digByte t k = digByte s k := by
  rw [digByte, digByte, h]

/-- A failure keeps the relations between the fields, and the ghost flag has seen it. -/
theorem Consistent.failWith {s : State} (h : Consistent s) (code : ErrorCode) : Consistent (failWith code s) := by
  obtain ⟨shape, released, noDigest, fits, -⟩ := h
  exact ⟨shape, released, noDigest, fits, fun _ => rfl⟩

/-- INIT leaves a consistent state, whatever was before. -/
theorem consistent_freshInstance {v : Variant} (hv : v ≠ .unset) (s : State) :
    Consistent (respondStatus (freshInstance v s)) := by
  have hempty : 0 < blockSize v := by have := le_blockSize v; omega
  exact ⟨⟨fun _ => ⟨hv, hempty⟩, nofun⟩, nofun, fun _ => rfl, fun _ k _ => digByte_of_cleared rfl k,
    fun h => absurd rfl h⟩

/-- Absorbing with CFG = 1 keeps PLEN below BS and writes no other field that the relations speak of. -/
theorem Consistent.absorbBytes {s : State} (h : Consistent s) (hc : s.cfg = true) (bs : List Byte) :
    Consistent (respondStatus (absorbBytes bs s)) := by
  obtain ⟨shape, -, noDigest, fits, ghost⟩ := h
  obtain ⟨hv, hp⟩ := shape.1 hc
  refine ⟨⟨fun _ => ?_, ?_⟩, ?_, ?_, ?_, ?_⟩
  · simpa using ⟨hv, absorbBytes_plen_lt bs s hv hp⟩
  · simp [hc]
  · simp [ReleasedIsClear, hc]
  · simpa [NoDigestIsZero] using noDigest
  · intro _ k hk
    rw [digByte_congr (s := s) (by simp)]
    exact fits hc k (by simpa using hk)
  · simpa [GhostCoversErr] using ghost

/-- A state with a cleared computation, released or not, is consistent when its digest register and its ghost flag are. -/
theorem consistent_releaseIf {s : State} (b : Bool) (hv : b = false → s.cfg = true ∧ s.var ≠ .unset)
    (noDigest : NoDigestIsZero s) (fits : b = false → DigestFits s) (ghost : GhostCoversErr s) :
    Consistent (respondStatus (releaseIf b (clearComputation s))) := by
  cases b with
  | true => exact ⟨⟨nofun, fun _ => ⟨rfl, rfl⟩⟩, fun _ => ⟨rfl, rfl, rfl⟩, noDigest, nofun, ghost⟩
  | false =>
    obtain ⟨hc, hv⟩ := hv rfl
    have hempty : 0 < blockSize s.var := by have := le_blockSize s.var; omega
    refine ⟨⟨fun _ => ⟨hv, hempty⟩, fun h => ?_⟩, fun _ => ⟨rfl, rfl, rfl⟩, noDigest, fits rfl, ghost⟩
    simp [hc] at h

/-- A digest just latched is no longer than DB. -/
theorem digestFits_latchDigest (s : State) : DigestFits (latchDigest s) := by
  intro _ k hk
  rw [digByte_of_digest (latchDigest_dig s), if_neg (by simpa using hk)]

/-- A success keeps the relations between the fields. -/
theorem Succeeds.consistent {i : Instr} {s t : State} (h : Succeeds i s t) (hs : Consistent s) : Consistent t := by
  cases h with
  | init v s hv => exact consistent_freshInstance hv s
  | absorb n d s hn hc => exact hs.absorbBytes hc _
  | finalize b s hc =>
    obtain ⟨shape, -, -, -, ghost⟩ := hs
    exact consistent_releaseIf b (fun _ => ⟨hc, (shape.1 hc).1⟩) nofun (fun _ => digestFits_latchDigest _) ghost
  | clear b s hc =>
    obtain ⟨shape, -, -, -, ghost⟩ := hs
    refine consistent_releaseIf (s := clearDigest s) b (fun hb => ?_) (fun _ => rfl)
      (fun _ _ k _ => digByte_of_cleared rfl k) ghost
    obtain hc : s.cfg = true := by simpa [hb] using hc
    exact ⟨hc, (shape.1 hc).1⟩
  | read r s w hr => exact hs

/-- A command keeps the relations between the fields. -/
theorem Consistent.exec {i : Instr} {s t : State} (hs : Consistent s) (he : exec i s = .next t) : Consistent t := by
  cases hf : failureOf i s with
  | some code => exact eq_failWith_of_failureOf hf he ▸ hs.failWith code
  | none => exact (succeeds_of_failureOf hf he).consistent hs

/-- A command word keeps the relations between the fields. -/
theorem Consistent.runWord {c : Command} {s t : State} (hs : Consistent s) (hr : runWord c s = .next t) :
    Consistent t := by
  rcases runWord_cases c s with ⟨i, -, hr'⟩ | ⟨why, hd, -⟩
  · exact hs.exec (hr'.symm.trans hr)
  · exact eq_failWith_of_illegal hd hr ▸ hs.failWith .illegalCommand

/-- After a hardware reset the state is consistent, whatever was before. -/
theorem consistent_hardwareReset (s : State) : Consistent (hardwareReset s) :=
  ⟨⟨nofun, fun _ => ⟨rfl, rfl⟩⟩, fun _ => ⟨rfl, rfl, rfl⟩, fun _ => rfl, nofun, fun h => absurd rfl h⟩

/-- Settles O17: an idle step keeps the state, a reset makes it consistent, and a command is run only on a core that has been
reset, whose state is consistent, and keeps that; the response delivered is not part of it. -/
theorem stepKeepsInvariant : Obligations.StepKeepsInvariant := by
  unfold Obligations.StepKeepsInvariant
  intro s t hinv h
  rcases step_cases h with ⟨-, rfl⟩ | ⟨m, rest, -, rfl⟩ | ⟨c, rest, u, -, hl, hr, rfl⟩
  · exact hinv
  · exact fun _ => consistent_hardwareReset _
  · have before : Consistent { s with port := rest } := hinv hl
    have after : Consistent u := before.runWord hr
    exact fun _ => after

/-- Settles O16: the reset state is what a hardware reset makes of itself. -/
theorem invariantAtReset : Obligations.InvariantAtReset := by
  unfold Obligations.InvariantAtReset
  exact ⟨fun _ => consistent_hardwareReset State.reset, cleanLaunch_hardwareReset State.reset⟩

end Sys2Proof.Machine
end

section
/-!
PROOFS. What no command shows (10_state.md R27, R32): two relations between states that every command keeps, each shown for
AbsorbByte, for a failure and for each kind of success.
-/

namespace Sys2Proof.Machine

/-- Absorbing the same bytes keeps a relation that AbsorbByte keeps. -/
theorem absorbBytes_rel {R : State → State → Prop} (hR : ∀ s u b, R s u → R (absorbByte s b) (absorbByte u b))
    (bs : List Byte) {s u : State} (h : R s u) : R (absorbBytes bs s) (absorbBytes bs u) :=
  List.foldl_rel h fun b _ _ _ => hR _ _ b

/-- Which code a command fails with depends on CFG alone. -/
theorem failureOf_congr {i : Instr} {s u : State} (h : u.cfg = s.cfg) : failureOf i u = failureOf i s := by
  cases i <;> simp only [failureOf, h]

/-- A command keeps a relation on states with the same CFG that a failure keeps and a success answers alike. -/
theorem exec_rel {R : State → State → Prop} {i : Instr} {s u t : State} (hcfg : u.cfg = s.cfg)
    (hfail : ∀ code, R (failWith code s) (failWith code u))
    (hsucceed : Succeeds i s t → ∃ t', Succeeds i u t' ∧ R t t') (he : exec i s = .next t) :
    ∃ t', exec i u = .next t' ∧ R t t' := by
  cases hf : failureOf i s with
  | some code =>
    obtain rfl := eq_failWith_of_failureOf hf he
    exact ⟨_, exec_of_failureOf ((failureOf_congr hcfg).trans hf), hfail code⟩
  | none =>
    obtain ⟨t', hs, hR⟩ := hsucceed (succeeds_of_failureOf hf he)
    exact ⟨t', hs.exec_eq, hR⟩

/-! ### The lanes and PBUF -/

/-- AbsorbByte decides by PLEN and BS alone whether it flushes. -/
theorem SameUpToSecret.absorbByte {s u : State} (h : SameUpToSecret s u) (b : Byte) :
    SameUpToSecret (absorbByte s b) (absorbByte u b) := by
  have full : blockFull (appendByte b u) = blockFull (appendByte b s) := by rw [h]; rfl
  unfold Machine.absorbByte
  rw [full]
  split <;> rw [h] <;> rfl

/-- A success other than FINALIZE shows nothing of the lanes and PBUF. -/
theorem Succeeds.sameUpToSecret {i : Instr} {s u t : State} (h : SameUpToSecret s u) (hi : ∀ b, i ≠ .finalize b)
    (hs : Succeeds i s t) : ∃ t', Succeeds i u t' ∧ SameUpToSecret t t' := by
  cases hs with
  | init v s hv => exact ⟨_, .init v u hv, by rw [h]; rfl⟩
  | absorb n d s hn hc =>
    have habs := absorbBytes_rel (R := SameUpToSecret) (fun _ _ b h => h.absorbByte b) (messageBytes n d) h
    exact ⟨_, .absorb n d u hn (by rw [h]; exact hc), by rw [habs]; rfl⟩
  | finalize b s hc => exact absurd rfl (hi b)
  | clear b s hc => exact ⟨_, .clear b u (by rw [h]; exact hc), by rw [h]; cases b <;> rfl⟩
  | read r s w hr => exact ⟨_, .read r u w (by rw [h]; exact hr), by rw [h]; rfl⟩

/-- Settles O56: a failure and every success but FINALIZE's read neither the lanes nor PBUF into another field. -/
theorem secretSeenOnlyByDigest : Obligations.SecretSeenOnlyByDigest := by
  unfold Obligations.SecretSeenOnlyByDigest
  intro i s u t h hi he
  exact exec_rel (by rw [h]) (fun code => by rw [h]; rfl) (fun hs => hs.sameUpToSecret h hi) he

/-! ### The stale bytes of PBUF -/

/-- The byte appended is valid in both, and a byte was valid before or is the one appended. -/
theorem SameUpToStaleBytes.appendByte {s u : State} (h : SameUpToStaleBytes s u) (b : Byte) :
    SameUpToStaleBytes (appendByte b s) (appendByte b u) := by
  obtain ⟨hu, hbytes⟩ := h
  refine ⟨by rw [hu]; rfl, fun j hj => ?_⟩
  have hplen : u.plen = s.plen := by rw [hu]
  rw [pbufByte_appendByte, pbufByte_appendByte, hplen]
  split
  · rfl
  · next hnew =>
    by_cases hj' : j < s.plen.toNat
    · exact hbytes j hj'
    · have : (s.plen + 1#8).toNat ≤ s.plen.toNat + 1 := by rw [BitVec.toNat_add]; exact Nat.mod_le _ _
      have : j < (s.plen + 1#8).toNat := hj
      rw [pbufByte_of_le u j (by omega), pbufByte_of_le s j (by omega)]

/-- A flush reads bytes below BS, which is PLEN. -/
theorem SameUpToStaleBytes.flushBlock {s u : State} (h : SameUpToStaleBytes s u) (hfull : blockFull s = true) :
    SameUpToStaleBytes (flushBlock s) (flushBlock u) := by
  obtain ⟨hu, hbytes⟩ := h
  have hplen : s.plen.toNat = blockSize s.var := of_decide_eq_true hfull
  have hblock : absorbBlock (pbufByte u) s = absorbBlock (pbufByte s) s :=
    absorbBlock_congr s fun j hj => hbytes j (by omega)
  have habsorbed : absorbBlock (pbufByte u) u = { absorbBlock (pbufByte s) s with pbuf := u.pbuf } := by
    rw [← hblock, absorbBlock, hu]
    rfl
  refine ⟨?_, nofun⟩
  rw [Machine.flushBlock, habsorbed, hu]
  rfl


/-- AbsorbByte reads valid bytes only: the one it appends, and a whole block when it flushes. -/
theorem SameUpToStaleBytes.absorbByte {s u : State} (h : SameUpToStaleBytes s u) (b : Byte) :
    SameUpToStaleBytes (absorbByte s b) (absorbByte u b) := by
  have happ := h.appendByte b
  have full : blockFull (Machine.appendByte b u) = blockFull (Machine.appendByte b s) := by rw [happ.1]; rfl
  unfold Machine.absorbByte
  rw [full]
  split
  · exact happ.flushBlock ‹_›
  · exact happ

/-- The padded block is made of the bytes below PLEN. -/
theorem SameUpToStaleBytes.padBlock_eq {s u : State} (h : SameUpToStaleBytes s u) : padBlock u = padBlock s := by
  obtain ⟨hu, hbytes⟩ := h
  funext j
  have hplen : u.plen = s.plen := by rw [hu]
  have hvar : u.var = s.var := by rw [hu]
  unfold padBlock
  rw [hplen, hvar]
  split
  · rw [hbytes j ‹_›]
  · rfl

/-- A success shows nothing of the stale bytes. -/
theorem Succeeds.sameUpToStaleBytes {i : Instr} {s u t : State} (h : SameUpToStaleBytes s u) (hs : Succeeds i s t) :
    ∃ t', Succeeds i u t' ∧ SameUpToStaleBytes t t' := by
  have hu := h.1
  cases hs with
  | init v s hv => exact ⟨_, .init v u hv, by rw [hu]; rfl, nofun⟩
  | absorb n d s hn hc =>
    obtain ⟨habs, hbytes⟩ := absorbBytes_rel (R := SameUpToStaleBytes) (fun _ _ b h => h.absorbByte b) (messageBytes n d) h
    exact ⟨_, .absorb n d u hn (by rw [hu]; exact hc), by rw [habs]; rfl, hbytes⟩
  | finalize b s hc =>
    refine ⟨_, .finalize b u (by rw [hu]; exact hc), ?_, by cases b <;> nofun⟩
    rw [h.padBlock_eq, hu]
    cases b <;> rfl
  | clear b s hc => exact ⟨_, .clear b u (by rw [hu]; exact hc), by rw [hu]; cases b <;> rfl, by cases b <;> nofun⟩
  | read r s w hr => exact ⟨_, .read r u w (by rw [hu]; exact hr), by rw [hu]; rfl, h.2⟩

/-- Settles O57: a failure and every success read only bytes below PLEN from PBUF. -/
theorem staleBytesUnobservable : Obligations.StaleBytesUnobservable := by
  unfold Obligations.StaleBytesUnobservable
  intro i s u t h he
  have hu := h.1
  exact exec_rel (by rw [hu]) (fun code => ⟨by rw [hu]; rfl, h.2⟩) (fun hs => hs.sameUpToStaleBytes h) he

end Sys2Proof.Machine
end

section
/-!
PROOFS. The rest of the permutation (40_permutation.md R113, R116, R118 to R120, R123): Theta, Pi and Iota lane by lane, the two
tables against their constructions, the traversal form of Rho and Pi, and the worked values.
-/

namespace Sys2Proof.Machine

/-! ### Theta, Pi and Iota -/

/-- C[x] as the lanes of column x. -/
theorem columnParity_val (a : LaneFile) (x k : Fin 5) :
    columnParity a (x.val + k.val) =
      a[(x + k).val] ^^^ a[(x + k).val + 5] ^^^ a[(x + k).val + 10] ^^^ a[(x + k).val + 15] ^^^ a[(x + k).val + 20] := by
  have lane (y : Fin 5) : laneAt a (x.val + k.val) y.val = a[(x + k).val + 5 * y.val] := laneAt_val_add a x k y
  rw [columnParity, show laneAt a (x.val + k.val) 0 = a[(x + k).val] from lane 0,
    show laneAt a (x.val + k.val) 1 = a[(x + k).val + 5] from lane 1,
    show laneAt a (x.val + k.val) 2 = a[(x + k).val + 10] from lane 2,
    show laneAt a (x.val + k.val) 3 = a[(x + k).val + 15] from lane 3,
    show laneAt a (x.val + k.val) 4 = a[(x + k).val + 20] from lane 4]

/-- Settles O30: Theta is tabulated from the column parities of the lane file it is given; x - 1 is x + 4 mod 5. -/
theorem thetaLanes : Obligations.ThetaLanes := by
  unfold Obligations.ThetaLanes
  intro a x y column
  have left : columnParity a (x.val + 4) = column (x + 4) := columnParity_val a x 4
  have right : columnParity a (x.val + 1) = column (x + 1) := columnParity_val a x 1
  rw [theta, getElem_ofGrid_val, laneAt_val, thetaValue, left, right, rotl64_eq_rotateLeft _ 1 (by decide), Fin.sub_eq_add_neg]
  rfl

/-- The lane at (x,y) after Pi. -/
theorem getElem_piStep (a : LaneFile) (x y : Fin 5) :
    (piStep a)[x.val + 5 * y.val] = a[(x + 3 * y).val + 5 * x.val] := by
  rw [piStep, getElem_ofGrid_val, ← laneAt_val]
  unfold laneAt
  congr 2
  rw [Fin.val_add, Fin.val_mul]
  simp

/-- Pi reads (x,y) for the lane it writes at (y, 2x+3y): 2x + 3y is undone by y + 3(2x+3y) = x mod 5. -/
theorem pi_source (x y : Fin 5) : y + 3 * (2 * x + 3 * y) = x := by
  decide +revert

/-- Where Pi moves the lane at (x,y). -/
theorem getElem_piStep_moved (a : LaneFile) (x y : Fin 5) :
    (piStep a)[y.val + 5 * (2 * x + 3 * y).val] = a[x.val + 5 * y.val] := by
  rw [getElem_piStep]
  simp only [pi_source]

/-- A lane file is determined by its lanes at (x,y). -/
theorem ext_grid {a b : LaneFile} (h : ∀ x y : Fin 5, a[x.val + 5 * y.val] = b[x.val + 5 * y.val]) : a = b := by
  ext i hi : 1
  have := h ⟨i % 5, by omega⟩ ⟨i / 5, by omega⟩
  simpa only [Nat.mod_add_div] using this

/-- Settles O33: Pi reads each lane from the place that the move comes from, so the image holds every lane of the file. -/
theorem piMovesLanes : Obligations.PiMovesLanes := by
  unfold Obligations.PiMovesLanes
  refine ⟨getElem_piStep_moved, getElem_piStep, by decide, fun a b h => ext_grid fun x y => ?_⟩
  rw [← getElem_piStep_moved a, ← getElem_piStep_moved b, h]

/-- Settles O35: Iota sets lane 0, and 0 XORed with RC[0] is RC[0]. -/
theorem iotaWritesLaneZero : Obligations.IotaWritesLaneZero := by
  unfold Obligations.IotaWritesLaneZero
  refine fun a i => ⟨?_, fun j h hj => ?_, by decide⟩
  · rw [iota, Vector.getElem_set_self, laneAt_of_lt a 0 0 (by decide) (by decide)]
  · exact Vector.getElem_set_ne _ _ hj.symm

/-! ### Tables and worked values -/

/-- Settles O32: the walk visits 24 places, and the table is compared at each. -/
theorem rotationOffsetsStandard : Obligations.RotationOffsetsStandard := by
  unfold Obligations.RotationOffsetsStandard
  decide +kernel

/-- Settles O36: the 24 constants are compared with the LFSR bit by bit. -/
theorem roundConstantsFromLfsr : Obligations.RoundConstantsFromLfsr := by
  unfold Obligations.RoundConstantsFromLfsr
  decide +kernel

/-- Settles O38: both are evaluated from the all-zero lane file. -/
theorem permutationOfZero : Obligations.PermutationOfZero := by
  unfold Obligations.PermutationOfZero
  exact ⟨by decide +kernel, by decide +kernel⟩

/-! ### The traversal form of Rho and Pi -/

/-- What a traversal with destinations and rotations `l` and the lane at `carried` in hand leaves at lane `i`, as a place of the
lane file before it and a rotation: its own lane where it does not come, the lane in hand where it comes. -/
def traversalSource : List (Fin 25 × Nat) → Fin 25 → Fin 25 → Fin 25 × Nat
  | [], _, i => (i, 0)
  | (d, r) :: l, carried, i => if i = d then (carried, r) else traversalSource l d i

/-- One step of the traversal at a lane. -/
theorem getElem_traversalStep (a : LaneFile) (w : Word) (d : Fin 25) (r : Nat) (i : Fin 25) :
    (traversalStep (a, w) (d, r)).1[i.val] = if i = d then rotl64 w r else a[i.val] := by
  simp only [traversalStep, Vector.getElem_set, Fin.ext_iff, eq_comm]

/-- A traversal leaves the lanes that it does not come to. -/
theorem getElem_traversal_of_not_mem (l : List (Fin 25 × Nat)) (c : LaneFile × Word) (i : Fin 25)
    (hi : i ∉ l.map Prod.fst) : (l.foldl traversalStep c).1[i.val] = c.1[i.val] := by
  induction l generalizing c with
  | nil => rfl
  | cons p l ih =>
    obtain ⟨hne, hrest⟩ : i ≠ p.1 ∧ i ∉ l.map Prod.fst := by simpa using hi
    rw [List.foldl_cons, ih _ hrest, getElem_traversalStep, if_neg hne]

/-- A traversal that comes to no lane twice leaves every lane as `traversalSource` says. -/
theorem getElem_traversal (l : List (Fin 25 × Nat)) (a b : LaneFile) (carried i : Fin 25) (hl : (l.map Prod.fst).Nodup)
    (hb : ∀ j ∈ l.map Prod.fst, b[j.val] = a[j.val]) (hi : i ∈ l.map Prod.fst) :
    (l.foldl traversalStep (b, a[carried.val])).1[i.val] =
      rotl64 a[(traversalSource l carried i).1.val] (traversalSource l carried i).2 := by
  induction l generalizing b carried with
  | nil => simp at hi
  | cons p l ih =>
    obtain ⟨d, r⟩ := p
    obtain ⟨hd, hl⟩ := List.nodup_cons.mp hl
    simp only [List.foldl_cons, traversalSource]
    split
    · next h =>
      rw [getElem_traversal_of_not_mem _ _ _ (h ▸ hd), getElem_traversalStep, if_pos h]
    · next h =>
      have hd_lane : b[d.val] = a[d.val] := hb d (by simp)
      simp only [traversalStep, hd_lane]
      refine ih _ d hl (fun j hj => ?_) (by simpa [h] using hi)
      have hjd : d.val ≠ j.val := fun e => hd (Fin.ext e ▸ hj)
      rw [Vector.getElem_set_ne _ _ hjd, hb j (by simp [hj])]

/-- The lane number of (x,y). -/
def gridLane (x y : Fin 5) : Fin 25 := ⟨x.val + 5 * y.val, by omega⟩

/-- The destinations and rotations of R120, the lane in hand being lane 1 at first. -/
def traversalCycle : List (Fin 25 × Nat) := traversalLanes.zip traversalRotations

/-- The traversal comes to every lane but lane 0, and to none twice. -/
theorem traversalCycle_visits : (traversalCycle.map Prod.fst).Nodup ∧ gridLane 0 0 ∉ traversalCycle.map Prod.fst ∧
    ∀ x y : Fin 5, (x, y) ≠ (0, 0) → gridLane x y ∈ traversalCycle.map Prod.fst := by
  decide

/-- The traversal brings to (x,y) the lane that Pi reads for it, rotated by the offset that Rho has at its place. -/
theorem traversalSource_eq (x y : Fin 5) (h : (x, y) ≠ (0, 0)) : traversalSource traversalCycle 1 (gridLane x y) =
    (gridLane (x + 3 * y) x, rotationOffset (x + 3 * y).val x.val) := by
  decide +revert

/-- Settles O37: the traversal comes once to each lane but lane 0, with the lane and the rotation that Pi after Rho has there,
and both keep lane 0. -/
theorem traversalIsRhoThenPi : Obligations.TraversalIsRhoThenPi := by
  unfold Obligations.TraversalIsRhoThenPi
  refine fun a => ext_grid fun x y => ?_
  obtain ⟨once, not_zero, others⟩ := traversalCycle_visits
  rw [getElem_piStep, getElem_rho]
  by_cases h : (x, y) = (0, 0)
  · obtain ⟨rfl, rfl⟩ := Prod.mk.inj h
    calc (rhoPiInPlace a)[0] = a[0] := getElem_traversal_of_not_mem traversalCycle (a, a[1]) (gridLane 0 0) not_zero
      _ = (rho a)[0] := (rho_lane_zero a).symm
      _ = a[0].rotateLeft 0 := getElem_rho a 0 0
  · have carried := getElem_traversal traversalCycle a a 1 (gridLane x y) once (fun _ _ => rfl) (others x y h)
    simp only [traversalSource_eq x y h] at carried
    rw [← rotl64_eq_rotateLeft _ _ (rotationOffset_lt _ _)]
    exact carried

end Sys2Proof.Machine
end

section
/-!
PROOFS. ABSORB as whole next states (41_absorb.md R142 to R146, 20_memory.md R63): the bytes of DATA, what absorbing leaves below
the block boundary and at it, and how PLEN and BPROC count.
-/

namespace Sys2Proof.Machine

/-! ### The bytes of DATA -/

@[simp] theorem length_messageBytes (n : Nat) (d : Word) : (messageBytes n d).length = n := by
  rw [messageBytes, List.length_map, List.length_range]

/-- Byte k of the message bytes is byte k of DATA. -/
theorem getD_messageBytes {n k : Nat} (d : Word) (hk : k < n) : (messageBytes n d).getD k 0x00#8 = byteOf d k := by
  simp [messageBytes, hk]

/-- The message bytes are read from the low 8N bits of DATA. -/
theorem messageBytes_congr {n : Nat} {d e : Word} (h : ∀ k, k < 8 * n → d.getLsbD k = e.getLsbD k) :
    messageBytes n d = messageBytes n e := by
  refine List.map_congr_left fun k hk => BitVec.eq_of_getLsbD_eq fun j hj => ?_
  have := List.mem_range.mp hk
  simp only [byteOf, BitVec.getLsbD_extractLsb', h (8 * k + j) (by omega)]

/-- Settles O27: ABSORB uses DATA only through its message bytes. -/
theorem absorbIgnoresHighData : Obligations.AbsorbIgnoresHighData := by
  unfold Obligations.AbsorbIgnoresHighData
  intro s n d e h
  simp only [exec, execAbsorb, messageBytes_congr h]

/-! ### Storing bytes -/

@[simp] theorem storeBytes_nil (k : Nat) (p : PendingBuffer) : storeBytes k [] p = p := rfl

@[simp] theorem storeBytes_cons (k : Nat) (b : Byte) (bs : List Byte) (p : PendingBuffer) :
    storeBytes k (b :: bs) p = storeBytes (k + 1) bs (p.setIfInBounds k b) := rfl

/-- What storing bytes leaves at index j. -/
theorem getElem_storeBytes (k : Nat) (bs : List Byte) (p : PendingBuffer) (j : Nat) (hj : j < 144) :
    (storeBytes k bs p)[j] = if k ≤ j ∧ j < k + bs.length then bs.getD (j - k) 0x00#8 else p[j] := by
  induction bs generalizing k p with
  | nil => rw [storeBytes_nil, if_neg (by simp)]
  | cons b bs ih =>
    rw [storeBytes_cons, ih, Vector.getElem_setIfInBounds hj, List.length_cons]
    by_cases hk : k = j
    · subst hk
      simp
    · by_cases hin : k + 1 ≤ j ∧ j < k + 1 + bs.length
      · rw [if_pos hin, if_pos (by omega), show j - k = (j - (k + 1)) + 1 by omega, List.getD_cons_succ]
      · rw [if_neg hin, if_neg hk, if_neg (by omega)]

/-! ### Below the boundary and at it -/

/-- The state with another pending buffer and PLEN. -/
def setPending (p : PendingBuffer) (n : BitVec 8) (s : State) : State := { s with pbuf := p, plen := n }

/-- Bytes that do not reach the boundary are stored after the pending ones. -/
theorem absorbBytes_below (bs : List Byte) (s : State) (hv : s.var ≠ .unset)
    (h : s.plen.toNat + bs.length < blockSize s.var) :
    absorbBytes bs s = setPending (storeBytes s.plen.toNat bs s.pbuf) (s.plen + BitVec.ofNat 8 bs.length) s := by
  have hbs := (blockSize_bounds s.var hv).2
  induction bs generalizing s with
  | nil => simp [setPending]
  | cons b bs ih =>
    rw [List.length_cons] at h
    have hplen := appendByte_plen_toNat b s (by omega)
    have hrest := ih (appendByte b s) hv (by rw [hplen, appendByte_var]; omega) hbs
    rw [absorbBytes_cons, absorbByte_below s b (by omega) (by omega), hrest, hplen, storeBytes_cons, appendByte_plen,
      BitVec.add_assoc, List.length_cons, Nat.add_comm bs.length 1, BitVec.ofNat_add]
    rfl

/-- Bytes that reach the boundary exactly fill PBUF, which is absorbed as a block and counted. -/
theorem absorbBytes_fill (bs : List Byte) (s : State) (hv : s.var ≠ .unset) (hp : s.plen.toNat < blockSize s.var)
    (h : s.plen.toNat + bs.length = blockSize s.var) :
    absorbBytes bs s = setPending (storeBytes s.plen.toNat bs s.pbuf) 0#8
      (absorbDirect (fun j => (storeBytes s.plen.toNat bs s.pbuf)[j]?.getD 0x00#8) s) := by
  have hbs := (blockSize_bounds s.var hv).2
  induction bs generalizing s with
  | nil => exact absurd h hp.ne
  | cons b bs ih =>
    rw [List.length_cons] at h
    by_cases hlast : s.plen.toNat + 1 = blockSize s.var
    · obtain rfl : bs = [] := List.eq_nil_of_length_eq_zero (by omega)
      rw [absorbBytes_cons, absorbByte_at s b hlast (by omega), flushBlock, pbufByte_eq_getElem?]
      rfl
    · have hplen := appendByte_plen_toNat b s (by omega)
      have hrest := ih (appendByte b s) hv (by rw [hplen, appendByte_var]; omega) (by rw [hplen, appendByte_var]; omega) hbs
      rw [absorbBytes_cons, absorbByte_below s b (by omega) (by omega), hrest, hplen]
      rfl

/-- Absorbing a block with its count reads only bytes 0..BS-1 of the block. -/
theorem absorbDirect_congr {b c : Nat → Byte} (s : State) (h : ∀ j, j < blockSize s.var → b j = c j) :
    absorbDirect b s = absorbDirect c s := by
  rw [absorbDirect, absorbDirect, absorbBlock_congr s h]

/-- PBUF with the bytes of `bs` that reach the boundary stored after the pending ones. -/
def filledBuffer (s : State) (bs : List Byte) : PendingBuffer :=
  storeBytes s.plen.toNat (bs.take (blockSize s.var - s.plen.toNat)) s.pbuf

/-- The block of the pending bytes and the bytes of `bs` that follow them up to the boundary. -/
def boundaryBlock (s : State) (bs : List Byte) (j : Nat) : Byte :=
  if s.plen.toNat ≤ j ∧ j < blockSize s.var then bs.getD (j - s.plen.toNat) 0x00#8 else pbufByte s j

section
variable {s : State} {bs : List Byte} (hv : s.var ≠ .unset) (hp : s.plen.toNat < blockSize s.var)
  (hn : blockSize s.var ≤ s.plen.toNat + bs.length)
include hp hn

/-- The filled buffer holds the block. -/
theorem getElem_filledBuffer (j : Nat) (hj : j < 144) : (filledBuffer s bs)[j] = boundaryBlock s bs j := by
  unfold filledBuffer
  rw [getElem_storeBytes _ _ _ _ hj, boundaryBlock, pbufByte_of_lt s j hj, List.length_take, min_eq_left (by omega),
    Nat.add_sub_cancel' hp.le]
  split
  · rw [List.getD_eq_getElem?_getD, List.getElem?_take_of_lt (by omega), List.getD_eq_getElem?_getD]
  · rfl

include hv

/-- Bytes that reach the boundary: the filled buffer is absorbed, and the rest goes on from an empty one. -/
theorem absorbBytes_to_boundary : absorbBytes bs s = absorbBytes (bs.drop (blockSize s.var - s.plen.toNat))
    (setPending (filledBuffer s bs) 0#8 (absorbDirect (fun j => (filledBuffer s bs)[j]?.getD 0x00#8) s)) := by
  have hfill := absorbBytes_fill (bs.take (blockSize s.var - s.plen.toNat)) s hv hp
    (by rw [List.length_take, min_eq_left (by omega)]; omega)
  conv_lhs => rw [← List.take_append_drop (blockSize s.var - s.plen.toNat) bs, absorbBytes_append, hfill]
  rfl

/-- What is absorbed of the filled buffer is the block. -/
theorem absorbDirect_filledBuffer :
    absorbDirect (fun j => (filledBuffer s bs)[j]?.getD 0x00#8) s = absorbDirect (boundaryBlock s bs) s := by
  have hbs := (blockSize_bounds s.var hv).2
  refine absorbDirect_congr s fun j hj => ?_
  rw [Vector.getElem?_eq_getElem (by omega), Option.getD_some, getElem_filledBuffer hp hn j (by omega)]

/-- Bytes that reach the boundary but not the next one: the block is absorbed, and the bytes after it are stored from index 0. -/
theorem absorbBytes_across (hrest : s.plen.toNat + bs.length < 2 * blockSize s.var) :
    absorbBytes bs s = setPending (storeBytes 0 (bs.drop (blockSize s.var - s.plen.toNat)) (filledBuffer s bs))
      (BitVec.ofNat 8 (s.plen.toNat + bs.length - blockSize s.var)) (absorbDirect (boundaryBlock s bs) s) := by
  have hlength : (bs.drop (blockSize s.var - s.plen.toNat)).length = s.plen.toNat + bs.length - blockSize s.var := by
    rw [List.length_drop]
    omega
  have hbelow := absorbBytes_below (bs.drop (blockSize s.var - s.plen.toNat))
    (setPending (filledBuffer s bs) 0#8 (absorbDirect (boundaryBlock s bs) s)) hv
    (by rw [hlength]; show 0 + _ < blockSize s.var; omega)
  rw [absorbBytes_to_boundary hv hp hn, absorbDirect_filledBuffer hv hp hn, hbelow, hlength]
  exact congrArg (setPending _ · _) (BitVec.zero_add _)

end

/-- A success of ABSORB. -/
theorem exec_absorb_eq {n : Nat} {d : Word} {s : State} (hn : n ≤ 8) (hc : s.cfg = true) :
    exec (.absorb n d) s = .next (respondStatus (absorbBytes (messageBytes n d) s)) := (Succeeds.absorb n d s hn hc).exec_eq

/-- Settles O22: the message bytes are stored after the pending ones, and nothing else happens. -/
theorem absorbWithinBlock : Obligations.AbsorbWithinBlock := by
  unfold Obligations.AbsorbWithinBlock
  intro s n d hn hc hv hlt
  have habsorbed := absorbBytes_below (messageBytes n d) s hv (by rw [length_messageBytes]; exact hlt)
  rw [length_messageBytes] at habsorbed
  refine ⟨_, exec_absorb_eq hn hc, ?_, fun j hj => ?_⟩
  · rw [habsorbed]
    rfl
  · rw [pbufByte_of_lt _ j hj, pbufByte_of_lt s j hj, habsorbed]
    refine (getElem_storeBytes _ _ _ j hj).trans ?_
    rw [length_messageBytes]
    split
    · rw [getD_messageBytes d (by omega), byteOf]
    · rfl

/-- The block that an ABSORB completes, in the bytes of DATA. -/
theorem boundaryBlock_messageBytes {s : State} {n : Nat} (d : Word) (hn : blockSize s.var ≤ s.plen.toNat + n) :
    boundaryBlock s (messageBytes n d) = fun j =>
      if s.plen.toNat ≤ j ∧ j < blockSize s.var then d.extractLsb' (8 * (j - s.plen.toNat)) 8 else pbufByte s j := by
  funext j
  unfold boundaryBlock
  split
  · rw [getD_messageBytes d (by omega), byteOf]
  · rfl

/-- Settles O23: the block is absorbed and counted, and the bytes after it are stored in the filled buffer from index 0. -/
theorem absorbAcrossBoundary : Obligations.AbsorbAcrossBoundary := by
  unfold Obligations.AbsorbAcrossBoundary
  intro s n d hn hc hv hp hreach block rest
  have hlow := le_blockSize s.var
  have hreach' : blockSize s.var ≤ s.plen.toNat + (messageBytes n d).length := by rwa [length_messageBytes]
  have habsorbed := absorbBytes_across hv hp hreach' (by rw [length_messageBytes]; omega)
  have hblock : boundaryBlock s (messageBytes n d) = block := boundaryBlock_messageBytes d hreach
  rw [hblock, length_messageBytes] at habsorbed
  refine ⟨_, exec_absorb_eq hn hc, ?_, fun j hj => ?_⟩
  · rw [habsorbed]
    rfl
  · rw [pbufByte_of_lt _ j hj, habsorbed]
    refine (getElem_storeBytes _ _ _ j hj).trans ?_
    rw [List.length_drop, length_messageBytes, getElem_filledBuffer hp hreach' j hj, hblock, Nat.zero_add, Nat.sub_zero]
    by_cases hj' : j < rest
    · rw [if_pos (by omega), if_pos hj', List.getD_eq_getElem?_getD, List.getElem?_drop, ← List.getD_eq_getElem?_getD,
        getD_messageBytes d (by omega), byteOf]
    · rw [if_neg (by omega), if_neg hj']

/-- Settles O53: a failure writes no lane; of the successes, READ and an ABSORB below the boundary write none, INIT, FINALIZE
and CLEAR leave them cleared, and an ABSORB that reaches the boundary absorbs the block. -/
theorem lanesWriters : Obligations.LanesWriters := by
  unfold Obligations.LanesWriters
  refine ⟨fun c why s t hd hr => by rw [eq_failWith_of_illegal hd hr, failWith_lanes], fun i s t hs he hchanged => ?_⟩
  cases hf : failureOf i s with
  | some code => exact absurd (by rw [eq_failWith_of_failureOf hf he, failWith_lanes]) hchanged
  | none =>
    refine ⟨rfl, ?_⟩
    cases succeeds_of_failureOf hf he with
    | init v s hv => exact .inl ⟨.inl ⟨_, rfl⟩, by simp⟩
    | absorb n d s hn hc =>
      obtain ⟨hv, hp⟩ := hs.1.1 hc
      have hlow := le_blockSize s.var
      by_cases hreach : blockSize s.var ≤ s.plen.toNat + n
      · refine .inr ⟨n, d, rfl, hreach, ?_⟩
        rw [respondStatus_lanes, absorbBytes_across hv hp (by rwa [length_messageBytes]) (by rw [length_messageBytes]; omega),
          boundaryBlock_messageBytes d hreach]
        rfl
      · rw [respondStatus_lanes, absorbBytes_below _ s hv (by rw [length_messageBytes]; omega)] at hchanged
        exact absurd rfl hchanged
    | finalize b s hc => exact .inl ⟨.inr (.inl ⟨b, rfl⟩), by simp⟩
    | clear b s hc => exact .inl ⟨.inr (.inr ⟨b, rfl⟩), by simp⟩
    | read r s w hr => exact absurd (respond_lanes w s) hchanged

/-! ### Counting -/

/-- AbsorbByte counts a block when it completes one. -/
theorem absorbByte_bproc (s : State) (b : Byte) (hv : s.var ≠ .unset) (hp : s.plen.toNat < blockSize s.var) :
    (absorbByte s b).bproc = s.bproc + BitVec.ofNat 64 (blockSize s.var * ((s.plen.toNat + 1) / blockSize s.var)) := by
  have hbs := (blockSize_bounds s.var hv).2
  by_cases h : s.plen.toNat + 1 < blockSize s.var
  · simp [absorbByte_below s b h (by omega), Nat.div_eq_of_lt h]
  · have hfull : s.plen.toNat + 1 = blockSize s.var := by omega
    rw [absorbByte_at s b hfull (by omega), hfull, Nat.div_self (by omega), Nat.mul_one]
    rfl

/-- PLEN and BPROC count the absorbed bytes, from any PLEN below BS. -/
theorem absorbBytes_counts (bs : List Byte) (s : State) (hv : s.var ≠ .unset) (hp : s.plen.toNat < blockSize s.var) :
    (absorbBytes bs s).plen.toNat = (s.plen.toNat + bs.length) % blockSize s.var ∧
    (absorbBytes bs s).bproc =
      s.bproc + BitVec.ofNat 64 (blockSize s.var * ((s.plen.toNat + bs.length) / blockSize s.var)) := by
  induction bs generalizing s with
  | nil => simp [Nat.mod_eq_of_lt hp, Nat.div_eq_of_lt hp]
  | cons b bs ih =>
    have hplen := absorbByte_plen s b hv hp
    obtain ⟨ihp, ihb⟩ := ih (absorbByte s b) (by simpa using hv)
      (by rw [hplen, absorbByte_var]; exact Nat.mod_lt _ (by omega))
    rw [absorbByte_var, hplen] at ihp ihb
    rw [absorbByte_bproc s b hv hp, BitVec.add_assoc, ← BitVec.ofNat_add, ← Nat.mul_add] at ihb
    have hsum : s.plen.toNat + (b :: bs).length = s.plen.toNat + 1 + bs.length := by rw [List.length_cons]; omega
    have hdiv : (s.plen.toNat + 1) / blockSize s.var + ((s.plen.toNat + 1) % blockSize s.var + bs.length) / blockSize s.var =
        (s.plen.toNat + 1 + bs.length) / blockSize s.var := by
      rw [← Nat.mul_add_div (by omega : 0 < blockSize s.var), ← Nat.add_assoc, Nat.div_add_mod]
    rw [hsum]
    exact ⟨ihp.trans (Nat.mod_add_mod _ _ _), by rw [absorbBytes_cons, ihb, hdiv]⟩

/-- Settles O24: a command keeps the consistency of the state, whose shape bounds PLEN; and absorbing counts. -/
theorem bufferingBound : Obligations.BufferingBound := by
  unfold Obligations.BufferingBound
  refine ⟨fun s t i hs he => ?_, fun s bs hv hp => absorbBytes_counts bs s hv hp⟩
  obtain ⟨hlive, hreleased⟩ := (hs.exec he).1
  exact ⟨fun hc => (hlive hc).2, fun hc => (hreleased hc).2⟩

end Sys2Proof.Machine
end

section
/-!
PROOFS. Sequences of ABSORBs (20_memory.md R66, 30_encoding.md R91, 41_absorb.md R143, R145): a sequence absorbs the bytes of its
commands, so its splitting does not matter, UPDATE is one splitting, and the source's three phases are another.
-/

namespace Sys2Proof.Machine

/-! ### Runs of commands -/

theorem execAll_append {is js : List Instr} {s t : State} (h : execAll is s = .next t) :
    execAll (is ++ js) s = execAll js t := by
  induction is generalizing s with
  | nil =>
    obtain rfl := Host.Outcome.next.inj h
    rfl
  | cons i is ih =>
    obtain ⟨u, he⟩ := exec_answers i s
    rw [execAll_cons he] at h
    rw [List.cons_append, execAll_cons he, ih h]

/-- STATUS in RESP before more bytes are absorbed is overwritten after them. -/
theorem respondStatus_absorbBytes_respondStatus (bs : List Byte) (s : State) :
    respondStatus (absorbBytes bs (respondStatus s)) = respondStatus (absorbBytes bs s) := by
  rw [respondStatus.eq_def s, respond, absorbBytes_setResp]
  rfl

/-- With CFG = 1, a nonempty sequence of ABSORBs absorbs the bytes of its commands and responds with STATUS. -/
theorem execAll_absorbCommands {cs : List (Nat × Word)} {s : State} (hc : s.cfg = true) (hcs : ∀ c ∈ cs, c.1 ≤ 8)
    (hne : cs ≠ []) : execAll (absorbCommands cs) s = .next (respondStatus (absorbBytes (chunkBytes cs) s)) := by
  induction cs generalizing s with
  | nil => exact absurd rfl hne
  | cons c cs ih =>
    obtain ⟨hc8, hrest⟩ := List.forall_mem_cons.mp hcs
    have hchunks : chunkBytes (c :: cs) = messageBytes c.1 c.2 ++ chunkBytes cs := rfl
    rw [absorbCommands, List.map_cons, execAll_cons (exec_absorb_eq hc8 hc), hchunks, absorbBytes_append]
    by_cases hnil : cs = []
    · subst hnil
      rfl
    · have := ih (s := respondStatus (absorbBytes (messageBytes c.1 c.2) s)) (by simpa using hc) hrest hnil
      rwa [respondStatus_absorbBytes_respondStatus] at this

/-- Any sequence of ABSORBs with CFG = 1: only an empty one keeps RESP. -/
theorem execAll_absorbCommands_setResp {cs : List (Nat × Word)} {s : State} (hc : s.cfg = true)
    (hcs : ∀ c ∈ cs, c.1 ≤ 8) :
    ∃ r, execAll (absorbCommands cs) s = .next { absorbBytes (chunkBytes cs) s with resp := r } := by
  by_cases hne : cs = []
  · subst hne
    exact ⟨s.resp, rfl⟩
  · exact ⟨_, execAll_absorbCommands hc hcs hne⟩

/-- Settles O26: both sequences absorb the same bytes. -/
theorem streamingEquivalence : Obligations.StreamingEquivalence := by
  unfold Obligations.StreamingEquivalence
  intro s p q hc hp hq hpne hqne hbytes
  exact ⟨_, execAll_absorbCommands hc hp hpne, by rw [hbytes, execAll_absorbCommands hc hq hqne]⟩

/-- The N bytes of a DATA word as N one-byte ABSORBs. -/
def singleByteChunks (n : Nat) (d : Word) : List (Nat × Word) :=
  (List.range n).map fun i => (1, (d.extractLsb' (8 * i) 8).setWidth 64)

theorem chunkBytes_singleByteChunks (n : Nat) (d : Word) : chunkBytes (singleByteChunks n d) = messageBytes n d := by
  have single : ∀ b : Byte, messageBytes 1 (b.setWidth 64) = [b] := fun b => by
    simp [messageBytes, byteOf, BitVec.extractLsb'_setWidth_of_le]
  rw [chunkBytes, singleByteChunks, List.flatMap_map]
  simp only [single]
  exact List.flatMap_pure_eq_map _ _

/-- Settles O25: the one-byte ABSORBs absorb the same bytes as the one ABSORB. -/
theorem absorbEqualsSingleBytes : Obligations.AbsorbEqualsSingleBytes := by
  unfold Obligations.AbsorbEqualsSingleBytes
  intro s n d hpos hn hc
  refine ⟨_, exec_absorb_eq hn hc, ?_⟩
  have hne : singleByteChunks n d ≠ [] := by simpa [singleByteChunks] using hpos.ne'
  have hall : ∀ c ∈ singleByteChunks n d, c.1 ≤ 8 := by
    simp [singleByteChunks]
  have := execAll_absorbCommands hc hall hne
  rw [chunkBytes_singleByteChunks, absorbCommands, singleByteChunks, List.map_map] at this
  exact this

/-! ### UPDATE -/

/-- The counts and data words of UPDATE's commands. -/
def updateChunks (bs : List Byte) : List (Nat × Word) :=
  (List.range (bs.length / 8)).map (fun q => (8, wordFromBytes bs (8 * q))) ++
    if bs.length % 8 = 0 then [] else [(bs.length % 8, wordFromBytes bs (8 * (bs.length / 8)))]

theorem updateCommands_eq (bs : List Byte) : updateCommands bs = absorbCommands (updateChunks bs) := by
  unfold updateCommands absorbCommands updateChunks
  rw [List.map_append, List.map_map]
  split <;> rfl

/-- Every count of UPDATE is at most 8. -/
theorem updateChunks_count_le (bs : List Byte) : ∀ c ∈ updateChunks bs, c.1 ≤ 8 := by
  intro c hc
  unfold updateChunks at hc
  rcases List.mem_append.mp hc with h | h
  · obtain ⟨q, -, rfl⟩ := List.mem_map.mp h
    exact le_rfl
  · split at h
    · cases h
    · obtain rfl := List.mem_singleton.mp h
      show bs.length % 8 ≤ 8
      omega

/-- The message bytes of a word made from the bytes of a list are those bytes. -/
theorem messageBytes_wordFromBytes (bs : List Byte) (start n : Nat) (hn : n ≤ 8) (h : start + n ≤ bs.length) :
    messageBytes n (wordFromBytes bs start) = (bs.drop start).take n := by
  apply List.ext_getElem
  · rw [length_messageBytes, List.length_take, List.length_drop]
    omega
  · intro k hk _
    have hkn : k < n := by simpa using hk
    simp only [messageBytes, List.getElem_map, List.getElem_range, wordFromBytes]
    rw [byteOf_le64 _ k (by omega)]
    simp [List.getElem?_eq_getElem (show start + k < bs.length by omega)]

/-- The whole words of UPDATE hold the first 8q bytes. -/
theorem chunkBytes_wholeWords (bs : List Byte) (q : Nat) (h : 8 * q ≤ bs.length) :
    chunkBytes ((List.range q).map fun q => (8, wordFromBytes bs (8 * q))) = bs.take (8 * q) := by
  induction q with
  | zero => rfl
  | succ q ih =>
    rw [List.range_succ, List.map_append, chunkBytes, List.flatMap_append, ← chunkBytes, ih (by omega), Nat.mul_succ,
      List.take_add]
    simp [messageBytes_wordFromBytes bs (8 * q) 8 le_rfl (by omega)]

/-- UPDATE's commands hold exactly the bytes. -/
theorem chunkBytes_updateChunks (bs : List Byte) : chunkBytes (updateChunks bs) = bs := by
  have hwhole := chunkBytes_wholeWords bs (bs.length / 8) (by omega)
  rw [updateChunks, chunkBytes, List.flatMap_append, ← chunkBytes, hwhole]
  split
  · rw [List.flatMap_nil, List.append_nil, List.take_of_length_le (by omega)]
  · have htail := messageBytes_wordFromBytes bs (8 * (bs.length / 8)) (bs.length % 8) (by omega) (by omega)
    have hrest : (bs.drop (8 * (bs.length / 8))).length ≤ bs.length % 8 := by
      rw [List.length_drop]
      omega
    rw [List.flatMap_singleton, htail, List.take_of_length_le hrest, List.take_append_drop]

/-- Settles O58: UPDATE's commands are ABSORBs of at most 8 bytes that hold the bytes in order. -/
theorem updateAbsorbsBytes : Obligations.UpdateAbsorbsBytes := by
  unfold Obligations.UpdateAbsorbsBytes
  intro s bs hc
  rw [updateCommands_eq]
  refine ⟨fun i hi => ?_, ?_, ?_⟩
  · obtain ⟨c, hmem, rfl⟩ := List.mem_map.mp hi
    have := updateChunks_count_le bs c hmem
    exact decide_eq_true (by omega)
  · rintro rfl
    rfl
  · by_cases hnil : bs = []
    · subst hnil
      exact ⟨s, rfl, rfl⟩
    · have hne : updateChunks bs ≠ [] := fun h => hnil (by rw [← chunkBytes_updateChunks bs, h]; rfl)
      refine ⟨_, execAll_absorbCommands hc (updateChunks_count_le bs) hne, ?_⟩
      rw [chunkBytes_updateChunks, if_neg hnil]
      rfl

/-! ### The three phases -/

theorem SameUpToStaleBytes.refl (s : State) : SameUpToStaleBytes s s := ⟨rfl, fun _ _ => rfl⟩

theorem SameUpToStaleBytes.trans {s t u : State} (hst : SameUpToStaleBytes s t) (htu : SameUpToStaleBytes t u) :
    SameUpToStaleBytes s u := by
  obtain ⟨ht, hbytes⟩ := hst
  obtain ⟨hu, hbytes'⟩ := htu
  have hplen : t.plen = s.plen := by rw [ht]
  refine ⟨by rw [hu, ht], fun j hj => ?_⟩
  rw [hbytes' j (by rwa [hplen]), hbytes j hj]

theorem SameUpToStaleBytes.absorbBytes {s u : State} (h : SameUpToStaleBytes s u) (bs : List Byte) :
    SameUpToStaleBytes (absorbBytes bs s) (absorbBytes bs u) :=
  absorbBytes_rel (R := SameUpToStaleBytes) (fun _ _ b h => h.absorbByte b) bs h

/-- The second phase: the first q blocks of the input absorbed from it. -/
def absorbWholeBlocks (input : List Byte) (q : Nat) (s : State) : State :=
  (List.range q).foldl (fun t q => absorbDirect (fun j => input.getD (q * blockSize s.var + j) 0x00#8) t) s

theorem absorbWholeBlocks_succ (input : List Byte) (q : Nat) (s : State) :
    absorbWholeBlocks input (q + 1) s =
      absorbDirect (fun j => input.getD (q * blockSize s.var + j) 0x00#8) (absorbWholeBlocks input q s) := by
  simp only [absorbWholeBlocks, List.range_succ, List.foldl_append, List.foldl_cons, List.foldl_nil]

@[simp] theorem absorbWholeBlocks_var (input : List Byte) (q : Nat) (s : State) :
    (absorbWholeBlocks input q s).var = s.var := by
  induction q with
  | zero => rfl
  | succ q ih => rw [absorbWholeBlocks_succ]; exact ih

@[simp] theorem absorbWholeBlocks_plen (input : List Byte) (q : Nat) (s : State) :
    (absorbWholeBlocks input q s).plen = s.plen := by
  induction q with
  | zero => rfl
  | succ q ih => rw [absorbWholeBlocks_succ]; exact ih

/-- The third phase: the tail stored from index 0. -/
def storeTail (tail : List Byte) (s : State) : State := setPending (storeBytes 0 tail s.pbuf) (BitVec.ofNat 8 tail.length) s

/-- One block absorbed byte by byte into an empty buffer leaves the block in PBUF, all of it stale. -/
theorem absorbBytes_block (block : List Byte) (s : State) (hv : s.var ≠ .unset) (hp : s.plen = 0#8)
    (h : block.length = blockSize s.var) :
    SameUpToStaleBytes (absorbBytes block s) (absorbDirect (fun j => block.getD j 0x00#8) s) := by
  have hlow := le_blockSize s.var
  have hp0 : s.plen.toNat = 0 := by rw [hp]; rfl
  have hbs := (blockSize_bounds s.var hv).2
  have hfill := absorbBytes_fill block s hv (by omega) (by omega)
  rw [hp0] at hfill
  have hblock : absorbDirect (fun j => (storeBytes 0 block s.pbuf)[j]?.getD 0x00#8) s =
      absorbDirect (fun j => block.getD j 0x00#8) s := absorbDirect_congr s fun j hj => by
    rw [Vector.getElem?_eq_getElem (by omega), Option.getD_some, getElem_storeBytes _ _ _ j (by omega),
      if_pos (by omega), Nat.sub_zero]
  rw [hfill, hblock]
  refine ⟨?_, nofun⟩
  rw [setPending, ← hp]
  rfl

/-- Whole blocks absorbed byte by byte into an empty buffer. -/
theorem absorbBytes_wholeBlocks (input : List Byte) (q : Nat) (s : State) (hv : s.var ≠ .unset) (hp : s.plen = 0#8)
    (h : q * blockSize s.var ≤ input.length) :
    SameUpToStaleBytes (absorbBytes (input.take (q * blockSize s.var)) s) (absorbWholeBlocks input q s) := by
  induction q with
  | zero => rw [Nat.zero_mul]; exact .refl s
  | succ q ih =>
    rw [Nat.succ_mul] at h ⊢
    rw [List.take_add, absorbBytes_append, absorbWholeBlocks_succ]
    have hblock := absorbBytes_block ((input.drop (q * blockSize s.var)).take (blockSize s.var)) (absorbWholeBlocks input q s)
      (by simpa using hv) (by simpa using hp)
      (by rw [List.length_take, List.length_drop, absorbWholeBlocks_var]; omega)
    refine ((ih (by omega)).absorbBytes _).trans ?_
    rwa [absorbDirect_congr (c := fun j => input.getD (q * blockSize s.var + j) 0x00#8) _ fun j hj => ?_] at hblock
    have hj : j < blockSize s.var := by simpa using hj
    simp [List.getElem?_take_of_lt hj]

/-- The second and third phases: the whole blocks of the input absorbed from it, and its tail stored. -/
def absorbInput (input : List Byte) (s : State) : State :=
  storeTail (input.drop (input.length / blockSize s.var * blockSize s.var))
    (absorbWholeBlocks input (input.length / blockSize s.var) s)

/-- From an empty buffer, absorbing byte by byte is absorbing the whole blocks directly and storing the tail. -/
theorem absorbBytes_from_empty (input : List Byte) (s : State) (hv : s.var ≠ .unset) (hp : s.plen = 0#8) :
    SameUpToStaleBytes (absorbBytes input s) (absorbInput input s) := by
  unfold absorbInput
  generalize hq : input.length / blockSize s.var = q
  have hlow := le_blockSize s.var
  have hwhole : q * blockSize s.var ≤ input.length := hq ▸ Nat.div_mul_le_self _ _
  have hplen : (absorbWholeBlocks input q s).plen = 0#8 := by simpa using hp
  have hlength : (input.drop (q * blockSize s.var)).length < blockSize s.var := by
    rw [List.length_drop, ← hq, ← Nat.mod_eq_sub_div_mul]
    exact Nat.mod_lt _ (by omega)
  have htail := absorbBytes_below (input.drop (q * blockSize s.var)) (absorbWholeBlocks input q s) (by simpa using hv)
    (by rw [hplen, absorbWholeBlocks_var, BitVec.toNat_zero, Nat.zero_add]; exact hlength)
  rw [hplen, BitVec.zero_add] at htail
  have hblocks := (absorbBytes_wholeBlocks input q s hv hp hwhole).absorbBytes (input.drop (q * blockSize s.var))
  rwa [← absorbBytes_append, List.take_append_drop, htail] at hblocks

/-- The three phases on an input that reaches the boundary: after the first, the other two start from an empty buffer. -/
theorem threePhaseUpdate_of_reach {s : State} {bs : List Byte} (h : blockSize s.var ≤ s.plen.toNat + bs.length) :
    threePhaseUpdate bs s = absorbInput (bs.drop (blockSize s.var - s.plen.toNat))
      (setPending (filledBuffer s bs) 0#8 (absorbDirect (fun j => (filledBuffer s bs)[j]?.getD 0x00#8) s)) := by
  rw [threePhaseUpdate, if_neg h.not_gt]
  rfl

/-- Settles O28: below the boundary both store the bytes; at it both absorb the filled buffer, and then the whole blocks and the
tail of the rest. -/
theorem threePhaseUpdateAgrees : Obligations.ThreePhaseUpdateAgrees := by
  unfold Obligations.ThreePhaseUpdateAgrees
  intro s bs hv hp
  by_cases h : s.plen.toNat + bs.length < blockSize s.var
  · rw [absorbBytes_below bs s hv h, threePhaseUpdate, if_pos h]
    exact .refl _
  · have hreach : blockSize s.var ≤ s.plen.toNat + bs.length := by omega
    rw [absorbBytes_to_boundary hv hp hreach, threePhaseUpdate_of_reach hreach]
    exact absorbBytes_from_empty _ _ hv rfl

end Sys2Proof.Machine
end

section
/-!
PROOFS. FINALIZE (42_finalize.md R160 to R166): the padded block, the digest bytes, and that the core computes the sponge of the
whole padded message.
-/

namespace Sys2Proof.Machine

/-! ### The padded block and the digest bytes -/

/-- Settles O39: the two parts of a padded byte, case by case. -/
theorem padBlockBytes : Obligations.PadBlockBytes := by
  unfold Obligations.PadBlockBytes
  intro s hv hp
  refine ⟨fun j hj => ?_, fun below => ⟨?_, ?_, fun j hlow hhigh => ?_⟩, fun last => ?_⟩
  · rw [padBlock, if_pos hj, if_neg (by omega), BitVec.or_zero]
  · rw [padBlock, if_neg (by omega), if_pos rfl, if_neg (by omega), BitVec.or_zero]
  · rw [padBlock, if_neg (by omega), if_neg (by omega), if_pos rfl, BitVec.zero_or]
  · rw [padBlock, if_neg (by omega), if_neg (by omega), if_neg (by omega), BitVec.or_zero]
  · rw [padBlock, if_neg (by omega), if_pos (by omega), if_pos rfl]
    rfl

/-- The low bits of a word, a whole number of bytes of them, byte by byte. -/
theorem byteOf_setWidth (w : Word) (m k : Nat) (hk : k < 8) :
    byteOf ((w.setWidth (8 * m)).setWidth 64) k = if k < m then byteOf w k else 0x00#8 := by
  unfold byteOf
  ext j hj
  rw [BitVec.getElem_extractLsb', BitVec.getLsbD_setWidth, BitVec.getLsbD_setWidth]
  split
  · rw [BitVec.getElem_extractLsb']
    have h1 : 8 * k + j < 64 := by omega
    have h2 : 8 * k + j < 8 * m := by omega
    simp [h1, h2]
  · have h2 : ¬ 8 * k + j < 8 * m := by omega
    simp [h2]

theorem byteOf_zero (k : Nat) : byteOf 0#64 k = 0x00#8 := by
  rw [byteOf, BitVec.extractLsb'_zero]

/-- The source's remainder is a whole number of bytes. -/
theorem remainderBits_eq (v : Variant) :
    variantBits v - 64 * (variantBits v / 64) = 8 * (digestLength v - 8 * (variantBits v / 64)) := by
  cases v <;> rfl

/-- Settles O41: both sides agree byte by byte: a byte below DB is one of a whole word or of the remainder. -/
theorem digestWordMethod : Obligations.DigestWordMethod := by
  unfold Obligations.DigestWordMethod
  intro s v a w h hv hdig wordCount remainderBits
  have hremainder : remainderBits = 8 * (digestLength v - 8 * wordCount) := remainderBits_eq v
  have hrange : 8 * wordCount ≤ digestLength v ∧ digestLength v < 8 * wordCount + 8 := by cases v <;> decide
  rw [hremainder]
  refine eq_of_byteOf fun k hk => ?_
  have hlane : (8 * w + k) / 8 = w := by omega
  have hbyte : (8 * w + k) % 8 = k := by omega
  rw [byteOf_digestWord s w k hk, digByte_of_digest hdig, hlane, hbyte, laneNumber_eq a w (by omega)]
  split_ifs with hlt hwhole hlast hwhole hlast
  · rfl
  · rw [byteOf_setWidth _ _ _ hk, if_pos (by omega)]
  · omega
  · omega
  · rw [byteOf_setWidth _ _ _ hk, if_neg (by omega)]
  · rw [byteOf_zero]

/-- What a successful FINALIZE leaves in DIG. -/
theorem Succeeds.dig_of_finalize {b : Bool} {s t : State} (h : Succeeds (.finalize b) s t) :
    t.dig = digestOf s.var (absorbBlock (padBlock s) s).lanes ∧ t.dv = true ∧ t.err = s.err := by
  cases h with
  | finalize b s hc => simp

/-- Settles O42: FINALIZE leaves `digestOf` in DIG, which is 0 from DB on. -/
theorem digestLengthFixed : Obligations.DigestLengthFixed := by
  unfold Obligations.DigestLengthFixed
  refine ⟨by decide, fun s t b hc he => ?_⟩
  obtain ⟨hdig, hdv, -⟩ := (succeeds_of_failureOf (by simp [failureOf, hc]) he).dig_of_finalize
  refine ⟨hdv, fun k hk => ?_, fun k h hk => ?_⟩
  · rw [digByte_of_digest hdig, if_neg hk.not_gt]
  · rw [digByte_of_digest hdig, if_pos hk, laneNumber_eq _ _ h, byteOf]

/-! ### The sponge -/

/-- The lanes after the first q blocks of a message, from the all-zero state. -/
def spongeBlocks (v : Variant) (p : List Byte) (q : Nat) : LaneFile :=
  (List.range q).foldl (fun a q => keccakF (xorBlock (rateLanes v) (fun j => p.getD (q * blockSize v + j) 0x00#8) a))
    (Vector.replicate 25 0#64)

theorem spongeLanes_eq (v : Variant) (p : List Byte) : spongeLanes v p = spongeBlocks v p (p.length / blockSize v) := rfl

theorem spongeBlocks_succ (v : Variant) (p : List Byte) (q : Nat) : spongeBlocks v p (q + 1) =
    keccakF (xorBlock (rateLanes v) (fun j => p.getD (q * blockSize v + j) 0x00#8) (spongeBlocks v p q)) := by
  simp only [spongeBlocks, List.range_succ, List.foldl_append, List.foldl_cons, List.foldl_nil]

/-- The lanes after q blocks depend on their bytes alone. -/
theorem spongeBlocks_congr (v : Variant) {p p' : List Byte} (q : Nat)
    (h : ∀ i, i < q * blockSize v → p.getD i 0x00#8 = p'.getD i 0x00#8) : spongeBlocks v p q = spongeBlocks v p' q := by
  induction q with
  | zero => simp only [spongeBlocks, List.range_zero, List.foldl_nil]
  | succ q ih =>
    rw [Nat.succ_mul] at h
    rw [spongeBlocks_succ, spongeBlocks_succ, ih fun i hi => h i (by omega), xorBlock_congr _ fun j hj => h _ ?_]
    rw [eight_mul_rateLanes] at hj
    omega

/-- Whole blocks absorbed from a cleared computation. -/
theorem absorbWholeBlocks_lanes (input : List Byte) (q : Nat) (s : State) (hl : s.lanes = Vector.replicate 25 0#64) :
    (absorbWholeBlocks input q s).lanes = spongeBlocks s.var input q := by
  induction q with
  | zero => exact hl
  | succ q ih =>
    rw [absorbWholeBlocks_succ, spongeBlocks_succ, ← ih]
    show keccakF (xorBlock (rateLanes (absorbWholeBlocks input q s).var) _ _) = _
    rw [absorbWholeBlocks_var]

/-- The padding ends the block that the message has begun. -/
theorem length_padMessage (v : Variant) (m : List Byte) :
    (padMessage v m).length = (m.length / blockSize v + 1) * blockSize v := by
  have hlow := le_blockSize v
  have hmod := Nat.mod_lt m.length (show 0 < blockSize v by omega)
  have hdiv := Nat.div_add_mod' m.length (blockSize v)
  rw [Nat.succ_mul]
  unfold padMessage
  split
  · rw [List.length_append, List.length_singleton]
    omega
  · simp only [List.length_append, List.length_cons, List.length_replicate, List.length_nil]
    omega

/-- The message stands in front of its padding. -/
theorem getD_padMessage_of_lt (v : Variant) (m : List Byte) {i : Nat} (hi : i < m.length) :
    (padMessage v m).getD i 0x00#8 = m.getD i 0x00#8 := by
  unfold padMessage
  split <;> rw [List.getD_append _ _ _ _ hi]

/-- The last block of the padded message is PadBlock's: the bytes left, 0x01, zeros, with 0x80 ORed into the last byte. -/
theorem getD_padMessage_last (v : Variant) (m : List Byte) {j : Nat} (hj : j < blockSize v) :
    (padMessage v m).getD (m.length / blockSize v * blockSize v + j) 0x00#8 =
      (if j < m.length % blockSize v then m.getD (m.length / blockSize v * blockSize v + j) 0x00#8
        else if j = m.length % blockSize v then 0x01#8 else 0x00#8) |||
      (if j = blockSize v - 1 then 0x80#8 else 0x00#8) := by
  have hmod := Nat.mod_lt m.length (show 0 < blockSize v by omega)
  have hdiv := Nat.div_add_mod' m.length (blockSize v)
  by_cases hmessage : j < m.length % blockSize v
  · rw [getD_padMessage_of_lt v m (by omega), if_pos hmessage, if_neg (by omega), BitVec.or_zero]
  rw [if_neg hmessage]
  unfold padMessage
  split
  · rw [List.getD_append_right _ _ _ _ (by omega), if_pos (by omega), if_pos (by omega),
      show m.length / blockSize v * blockSize v + j - m.length = 0 by omega]
    rfl
  · rw [List.getD_append_right _ _ _ _ (by omega)]
    by_cases hfirst : j = m.length % blockSize v
    · rw [if_pos hfirst, if_neg (by omega), show m.length / blockSize v * blockSize v + j - m.length = 0 by omega]
      rfl
    · rw [if_neg hfirst,
        show m.length / blockSize v * blockSize v + j - m.length = j - m.length % blockSize v - 1 + 1 by omega,
        List.getD_cons_succ, BitVec.zero_or]
      by_cases hlast : j = blockSize v - 1
      · rw [if_pos hlast, List.getD_append_right _ _ _ _ (by rw [List.length_replicate]; omega), List.length_replicate,
          show j - m.length % blockSize v - 1 - (blockSize v - m.length % blockSize v - 2) = 0 by omega]
        rfl
      · rw [if_neg hlast, List.getD_append _ _ _ _ (by rw [List.length_replicate]; omega), List.getD_replicate _ (by omega)]

/-- PLEN after a message absorbed from an empty buffer. -/
theorem plen_absorbBytes (m : List Byte) (s : State) (hv : s.var ≠ .unset) (hp : s.plen = 0#8) :
    (absorbBytes m s).plen.toNat = m.length % blockSize s.var := by
  have hlow := le_blockSize s.var
  have hplen := (absorbBytes_counts m s hv (by rw [hp, BitVec.toNat_zero]; omega)).1
  rwa [hp, BitVec.toNat_zero, Nat.zero_add] at hplen

/-- The pending bytes after a message absorbed from an empty buffer are its bytes after the whole blocks. -/
theorem pbufByte_absorbBytes (m : List Byte) (s : State) (hv : s.var ≠ .unset) (hp : s.plen = 0#8) {j : Nat}
    (hj : j < m.length % blockSize s.var) :
    pbufByte (absorbBytes m s) j = m.getD (m.length / blockSize s.var * blockSize s.var + j) 0x00#8 := by
  obtain ⟨hlow, hbs⟩ := blockSize_bounds s.var hv
  have hmod := Nat.mod_lt m.length (show 0 < blockSize s.var by omega)
  have hdiv := Nat.div_add_mod' m.length (blockSize s.var)
  have hagree := (absorbBytes_from_empty m s hv hp).2 j (by rwa [plen_absorbBytes m s hv hp])
  rw [← hagree, pbufByte_of_lt _ j (by omega)]
  refine (getElem_storeBytes 0 _ _ j (by omega)).trans ?_
  rw [List.length_drop, if_pos (by omega), Nat.sub_zero, List.getD_eq_getElem?_getD, List.getElem?_drop,
    ← List.getD_eq_getElem?_getD]

/-- The padded block after a message absorbed from an empty buffer is the last block of the padded message. -/
theorem padBlock_absorbBytes (m : List Byte) (s : State) (hv : s.var ≠ .unset) (hp : s.plen = 0#8) {j : Nat}
    (hj : j < blockSize s.var) : padBlock (absorbBytes m s) j =
      (padMessage s.var m).getD (m.length / blockSize s.var * blockSize s.var + j) 0x00#8 := by
  rw [getD_padMessage_last s.var m hj, padBlock, plen_absorbBytes m s hv hp, absorbBytes_var]
  split
  · rw [pbufByte_absorbBytes m s hv hp ‹_›]
  · rfl

/-- The lanes that FINALIZE takes the digest from, after a message absorbed into a cleared computation. -/
theorem finalLanes_eq_sponge (m : List Byte) (s : State) (hv : s.var ≠ .unset) (hl : s.lanes = Vector.replicate 25 0#64)
    (hp : s.plen = 0#8) :
    (absorbBlock (padBlock (absorbBytes m s)) (absorbBytes m s)).lanes = spongeLanes s.var (padMessage s.var m) := by
  have hlow := le_blockSize s.var
  have hmod := Nat.mod_lt m.length (show 0 < blockSize s.var by omega)
  have hdiv := Nat.div_add_mod' m.length (blockSize s.var)
  have hlanes : (absorbBytes m s).lanes = spongeBlocks s.var m (m.length / blockSize s.var) := by
    rw [← absorbWholeBlocks_lanes m _ s hl]
    exact (congrArg State.lanes (absorbBytes_from_empty m s hv hp).1).symm
  rw [spongeLanes_eq, length_padMessage, Nat.mul_div_cancel _ (by omega), spongeBlocks_succ, absorbBlock_lanes,
    absorbBytes_var, hlanes, ← spongeBlocks_congr s.var _ fun i hi => getD_padMessage_of_lt s.var m (by omega)]
  refine congrArg keccakF (xorBlock_congr _ fun j hj => ?_)
  rw [eight_mul_rateLanes] at hj
  exact padBlock_absorbBytes m s hv hp hj

/-- From a cleared computation, ABSORBs and a FINALIZE leave the hash of their bytes in DIG. -/
theorem execAll_hash {s : State} {cs : List (Nat × Word)} (b : Bool) (hc : s.cfg = true) (hv : s.var ≠ .unset)
    (hl : s.lanes = Vector.replicate 25 0#64) (hp : s.plen = 0#8) (hcs : ∀ c ∈ cs, c.1 ≤ 8) :
    ∃ t, execAll (absorbCommands cs ++ [.finalize b]) s = .next t ∧ t.dig = keccakHash s.var (chunkBytes cs) ∧
      t.dv = true ∧ t.err = s.err := by
  obtain ⟨r, hrun⟩ := execAll_absorbCommands_setResp hc hcs
  have hfinal := Succeeds.finalize b { absorbBytes (chunkBytes cs) s with resp := r } (by simpa using hc)
  obtain ⟨hdig, hdv, herr⟩ := hfinal.dig_of_finalize
  refine ⟨_, (execAll_append hrun).trans (execAll_cons hfinal.exec_eq), hdig.trans ?_, hdv, herr.trans (by simp)⟩
  show digestOf (absorbBytes (chunkBytes cs) s).var
    (absorbBlock (padBlock (absorbBytes (chunkBytes cs) s)) (absorbBytes (chunkBytes cs) s)).lanes = _
  rw [finalLanes_eq_sponge _ s hv hl hp, absorbBytes_var, keccakHash]

/-- INIT, ABSORBs and a FINALIZE leave the hash of the bytes in DIG, from any state. -/
theorem execAll_init_hash (s : State) {v : Variant} {cs : List (Nat × Word)} (b : Bool) (hv : v ≠ .unset)
    (hcs : ∀ c ∈ cs, c.1 ≤ 8) :
    ∃ t, execAll (.init (variantBits v) :: (absorbCommands cs ++ [.finalize b])) s = .next t ∧
      t.dig = keccakHash v (chunkBytes cs) ∧ t.dv = true ∧ t.err = .noError := by
  rw [execAll_cons (Succeeds.init v s hv).exec_eq]
  exact execAll_hash (s := respondStatus (freshInstance v s)) b rfl hv rfl rfl hcs

/-- Settles O44: INIT leaves a cleared computation of its variant. -/
theorem computesKeccakHash : Obligations.ComputesKeccakHash := by
  unfold Obligations.ComputesKeccakHash
  exact fun s v cs b hv hcs => execAll_init_hash s b hv hcs

/-- Settles O43: FINALIZE keep leaves a cleared computation of the same variant, so both runs leave the hash of the bytes. -/
theorem resetCleanliness : Obligations.ResetCleanliness := by
  unfold Obligations.ResetCleanliness
  intro s u cs b hc hv hcs
  have hkeep := Succeeds.finalize false s hc
  obtain ⟨t, hrun, hdig, hdv, -⟩ := execAll_hash (cs := cs)
    (s := respondStatus (releaseIf false (clearComputation (latchDigest (absorbBlock (padBlock s) s))))) b hc hv rfl rfl hcs
  obtain ⟨t', hrun', hdig', hdv', -⟩ := execAll_init_hash u b hv hcs
  exact ⟨t, t', (execAll_cons hkeep.exec_eq).trans hrun, hrun', hdig.trans hdig'.symm, hdv, hdv'⟩

end Sys2Proof.Machine
end
